-- ==== Sys2Proof/Word.lean ====
section
/-! DEFINITION. Words of the CT block: the 32-bit register word, the 12-bit byte offset, the 48-bit
command word and its three fields (00_scope.md R7, 30_encoding.md R111). -/

namespace Sys2Proof

/-- A register of the block: "32 bits, every register" (00_scope.md R5). -/
abbrev Word := BitVec 32

/-- A byte offset from `BASE_ADDR`, 0x000 to 0xFFF (30_encoding.md R111). -/
abbrev Offset := BitVec 12

/-- One operation as the spec encodes it: `K OOO DDDDDDDD` (30_encoding.md R111). -/
abbrev CommandWord := BitVec 48

/-- Bits 47:44 (30_encoding.md R111). -/
def CommandWord.kind (w : CommandWord) : BitVec 4 := w.extractLsb' 44 4

/-- Bits 43:32 (30_encoding.md R111). -/
def CommandWord.off (w : CommandWord) : Offset := w.extractLsb' 32 12

/-- Bits 31:0 (30_encoding.md R111). -/
def CommandWord.data (w : CommandWord) : Word := w.extractLsb' 0 32

/-- The command word with the three given fields (30_encoding.md R111). -/
def CommandWord.make (kind : BitVec 4) (off : Offset) (data : Word) : CommandWord :=
  (kind ++ off) ++ data

end Sys2Proof
end

