-- ==== Sys2Proof/Config.lean ====
section
/-! DEFINITION. The implementation parameters of 00_scope.md R5 and R6 that are not register offsets:
the values the spec takes, and the open ones as constants without a body. -/

namespace Sys2Proof

/-- The driver's status codes that concern the block; their numbers are not in the spec
(30_encoding.md R125, 60_exceptions.md R372). -/
inductive Status where
  | ok
  | nullPointer
  | invalidParameter
  | invalidMode
  | busy
  | invalidCount
deriving DecidableEq, Repr

/-- The byte orders of a host memory (20_memory.md R81; log 27). -/
inductive Endian where
  /-- The byte at the lowest address lands in bits 7:0. -/
  | little
  /-- The byte at the lowest address lands in bits 31:24. -/
  | big
deriving DecidableEq, Repr, Inhabited

namespace Config

/-- `COUNTER_OFFSET`: the bit distance between a counter-0 field and the same counter-1 field
(00_scope.md R6, decision D7). -/
abbrev counterOffset : Nat := 16

/-- `EVENT_LAST`: event codes run from 0 to 38 (00_scope.md R6, decision D25). -/
abbrev eventLast : Nat := 39

/-- `ACTION_LAST`: action codes run from 0 to 7 (00_scope.md R6, decision D24). -/
abbrev actionLast : Nat := 8

/-- `BASE_ADDR`: OPEN in the spec, "a model argument; no rule depends on it" (00_scope.md R6, D6).
No body: nothing can be proved of its value (log 8). DESIGN CHOICE: the spec gives no width for a bus address; the
model takes 32 bits (log 22). -/
opaque baseAddr : BitVec 32

/-- `STATUS_CODES`: OPEN in the spec, "symbolic only" (00_scope.md R6, D56). No body (log 8). DESIGN CHOICE: the spec
calls a status numeric and gives neither a width nor a sign (30_encoding.md R125, 60_exceptions.md R372); the model
takes a natural number (log 8). -/
opaque statusCode : Status → Nat

/-- `HOST_ENDIAN`: the byte order of the host memory a DMA engine reads compare values from, OPEN in the spec,
"unobservable inside the block" (00_scope.md R6, 20_memory.md R81, D52). No body (log 8). -/
opaque hostEndian : Endian

/-- `BUS_WHEN_GATED`: whether `RD` and `WR` succeed while the peripheral clock is gated off, a parameter whose
default is that they succeed (00_scope.md R6, 60_exceptions.md R371, D60; log 9). -/
abbrev busWhenGated : Bool := true

end Config

end Sys2Proof
end

