-- ==== Sys2Proof/Syntax.lean ====
section
/-! DEFINITION. The syntax of the CT block's operations: the two channels, the eight actions, the 39
registers, and `Instr`, one constructor per row of spec/opcode_table.json (30_encoding.md R110, R144). -/

namespace Sys2Proof

/-- A channel: a counter with its fields, run state, status bits and output (00_scope.md R8). -/
inductive Channel where
  | c0
  | c1
deriving DecidableEq, Repr

/-- The eight actions, in the order of their codes 0 to 7 (30_encoding.md R115). -/
inductive Action where
  | start
  | stop
  | cont
  | halt
  | increment
  | capture
  | interrupt
  | output
deriving DecidableEq, Repr

/-- The three event registers of one action: select, AND-event, OR-event (10_state.md R49). -/
inductive EventReg where
  | sel
  | and
  | or
deriving DecidableEq, Repr

/-- The 39 registers of 30_encoding.md R113 and R114. -/
inductive Reg where
  | genCtrlSet
  | genCtrlReset
  | intrSts
  | intrMask
  | intrUnmask
  | intrAck
  | matchReg
  | captureReg
  | counter
  | ocuCtrl
  | ocuCompare
  | ocuCompareNxt
  | wfgCtrl
  | adcSel
  | arbCause
  | evt (a : Action) (k : EventReg)
deriving DecidableEq, Repr

/-- Whether a register access reads or writes (60_exceptions.md R350). -/
inductive Dir where
  | read
  | write
deriving DecidableEq, Repr

/-- `REGMAP`: the offset of each register, a configuration argument (00_scope.md R6, 30_encoding.md R113). -/
abbrev RegMap := Reg → Offset

/-- The five kinds of operation (30_encoding.md R110), with their operands. -/
inductive Op where
  | rd (r : Reg)
  | wr (r : Reg) (d : Word)
  | tick (inp : BitVec 4)
  | svc
  | rst
deriving DecidableEq, Repr

/-- The instructions: one constructor per row of spec/opcode_table.json (30_encoding.md R144). The operand
`d` is the 32-bit data field, taken whole (R116); `inp` is `in[3:0]`, the sampled input levels (R111). -/
inductive Instr where
  | rdGenCtrlSet
  | wrGenCtrlSet (d : Word)
  | rdGenCtrlReset
  | wrGenCtrlReset (d : Word)
  | rdIntrSts
  | wrIntrSts (d : Word)
  | rdIntrMask
  | wrIntrMask (d : Word)
  | rdIntrUnmask
  | wrIntrUnmask (d : Word)
  | rdIntrAck
  | wrIntrAck (d : Word)
  | rdMatchReg
  | wrMatchReg (d : Word)
  | rdCaptureReg
  | wrCaptureReg (d : Word)
  | rdCounter
  | wrCounter (d : Word)
  | rdOcuCtrl
  | wrOcuCtrl (d : Word)
  | rdOcuCompare
  | wrOcuCompare (d : Word)
  | rdOcuCompareNxt
  | wrOcuCompareNxt (d : Word)
  | rdWfgCtrl
  | wrWfgCtrl (d : Word)
  | rdAdcSel
  | wrAdcSel (d : Word)
  | rdArbCause
  | wrArbCause (d : Word)
  | rdStartSel
  | wrStartSel (d : Word)
  | rdStartAnd
  | wrStartAnd (d : Word)
  | rdStartOr
  | wrStartOr (d : Word)
  | rdStopSel
  | wrStopSel (d : Word)
  | rdStopAnd
  | wrStopAnd (d : Word)
  | rdStopOr
  | wrStopOr (d : Word)
  | rdContSel
  | wrContSel (d : Word)
  | rdContAnd
  | wrContAnd (d : Word)
  | rdContOr
  | wrContOr (d : Word)
  | rdHaltSel
  | wrHaltSel (d : Word)
  | rdHaltAnd
  | wrHaltAnd (d : Word)
  | rdHaltOr
  | wrHaltOr (d : Word)
  | rdIncrementSel
  | wrIncrementSel (d : Word)
  | rdIncrementAnd
  | wrIncrementAnd (d : Word)
  | rdIncrementOr
  | wrIncrementOr (d : Word)
  | rdCaptureSel
  | wrCaptureSel (d : Word)
  | rdCaptureAnd
  | wrCaptureAnd (d : Word)
  | rdCaptureOr
  | wrCaptureOr (d : Word)
  | rdInterruptSel
  | wrInterruptSel (d : Word)
  | rdInterruptAnd
  | wrInterruptAnd (d : Word)
  | rdInterruptOr
  | wrInterruptOr (d : Word)
  | rdOutputSel
  | wrOutputSel (d : Word)
  | rdOutputAnd
  | wrOutputAnd (d : Word)
  | rdOutputOr
  | wrOutputOr (d : Word)
  | tick (inp : BitVec 4)
  | svc
  | rst
deriving DecidableEq, Repr

/-- Every channel. -/
def Channel.all : List Channel := [.c0, .c1]

/-- Every action, in code order (30_encoding.md R115). -/
def Action.all : List Action := [.start, .stop, .cont, .halt, .increment, .capture, .interrupt, .output]

/-- The three event registers of an action, in offset order (30_encoding.md R114). -/
def EventReg.all : List EventReg := [.sel, .and, .or]

/-- Every register, in the order of the default map (30_encoding.md R113). -/
def Reg.all : List Reg :=
  [.genCtrlSet, .genCtrlReset, .intrSts, .intrMask, .intrUnmask, .intrAck, .matchReg, .captureReg,
   .counter, .ocuCtrl, .ocuCompare, .ocuCompareNxt, .wfgCtrl, .adcSel, .arbCause] ++
  Action.all.flatMap fun a => EventReg.all.map fun k => .evt a k

end Sys2Proof
end

