-- ==== Sys2Proof/WellFormed.lean ====
section
/-! DEFINITION. Well-formedness: which command words are legal (30_encoding.md R118) and which register maps
a decoder can be built from (R80, R113). A term of `Instr` needs no check of its own: its operands have the
exact widths of the fields of R111, 32 bits and 4 bits, so that an operand out of range cannot be written
(log 20). -/

namespace Sys2Proof

/-- Why a command word is illegal: the four conditions of 30_encoding.md R118, in its order. -/
inductive IllegalWord where
  /-- `kind` is 5 to 15. -/
  | reservedKind
  /-- `kind` is `RD` and `data != 0`. -/
  | readWithData
  /-- `kind` is `TICK` and (`off != 0` or `data[31:4] != 0`). -/
  | tickFields
  /-- `kind` is `SVC` or `RST` and (`off != 0` or `data != 0`). -/
  | systemFields
deriving DecidableEq, Repr

/-- The reason a command word is illegal, if it is (30_encoding.md R118). -/
def CommandWord.illegal (w : CommandWord) : Option IllegalWord :=
  if 5 ≤ w.kind.toNat then some .reservedKind
  else if w.kind = 0 ∧ w.data ≠ 0 then some .readWithData
  else if w.kind = 2 ∧ (w.off ≠ 0 ∨ w.data.extractLsb' 4 28 ≠ 0) then some .tickFields
  else if (w.kind = 3 ∨ w.kind = 4) ∧ (w.off ≠ 0 ∨ w.data ≠ 0) then some .systemFields
  else none

/-- A word that spells an operation (30_encoding.md R118). -/
def CommandWord.legal (w : CommandWord) : Bool := w.illegal.isNone

/-- Every register of the map sits at a word-aligned offset (20_memory.md R80, R82). -/
abbrev RegMap.Aligned (m : RegMap) : Prop := ∀ r ∈ Reg.all, (m r).extractLsb' 0 2 = 0

/-- No two registers share an offset: "there are no aliases" (10_state.md R21, 30_encoding.md R113). -/
abbrev RegMap.NoAlias (m : RegMap) : Prop := (Reg.all.map m).Pairwise (· ≠ ·)

/-- A register map from which a decoder can be built. DESIGN CHOICE: the spec does not say whether a map other than
the default may place a register at or above offset 0x0A0 (10_state.md R54, 20_memory.md R80, R89); the model admits
it (log 25). -/
abbrev RegMap.WellFormed (m : RegMap) : Prop := m.Aligned ∧ m.NoAlias

end Sys2Proof
end

