-- ==== Sys2Proof/Decode.lean ====
section
/-! DEFINITION. The decoder and the encoder of the 48-bit command word (30_encoding.md R110 to R119, R144).
The register map is an argument with the default of R113; a legal access to no register is an outcome of its
own (R119), and an illegal word is answered as illegal (R118). -/

namespace Sys2Proof

/-- The action's code, 0 to 7 (30_encoding.md R115). -/
def Action.code : Action → Nat
  | .start => 0
  | .stop => 1
  | .cont => 2
  | .halt => 3
  | .increment => 4
  | .capture => 5
  | .interrupt => 6
  | .output => 7

/-- The action with the given code; none from `ACTION_LAST` on (30_encoding.md R115). -/
def Action.ofCode (n : Nat) : Option Action := Action.all[n]?

/-- The default `REGMAP` (30_encoding.md R113, R114; decision D5). -/
def defaultRegMap : RegMap
  | .genCtrlSet => 0x000#12
  | .genCtrlReset => 0x004#12
  | .intrSts => 0x008#12
  | .intrMask => 0x00C#12
  | .intrUnmask => 0x010#12
  | .intrAck => 0x014#12
  | .matchReg => 0x018#12
  | .captureReg => 0x01C#12
  | .counter => 0x020#12
  | .ocuCtrl => 0x024#12
  | .ocuCompare => 0x028#12
  | .ocuCompareNxt => 0x02C#12
  | .wfgCtrl => 0x030#12
  | .adcSel => 0x034#12
  | .arbCause => 0x038#12
  | .evt a .sel => BitVec.ofNat 12 (0x040 + 12 * a.code)
  | .evt a .and => BitVec.ofNat 12 (0x044 + 12 * a.code)
  | .evt a .or => BitVec.ofNat 12 (0x048 + 12 * a.code)

/-- The parameters a model's step takes as arguments and to which the spec gives a default (00_scope.md R6). -/
structure Params where
  /-- `REGMAP` (30_encoding.md R113). -/
  regMap : RegMap
  /-- `BUS_WHEN_GATED` (60_exceptions.md R371). -/
  busWhenGated : Bool

/-- The parameters at the spec's defaults. -/
def Params.default : Params where
  regMap := defaultRegMap
  busWhenGated := Config.busWhenGated

/-- The register at an offset of the map, if any (30_encoding.md R113). -/
def regAt (m : RegMap) (off : Offset) : Option Reg := Reg.all.find? fun r => m r == off

/-- The instruction that reads a register. -/
def rdInstr : Reg → Instr
  | .genCtrlSet => .rdGenCtrlSet
  | .genCtrlReset => .rdGenCtrlReset
  | .intrSts => .rdIntrSts
  | .intrMask => .rdIntrMask
  | .intrUnmask => .rdIntrUnmask
  | .intrAck => .rdIntrAck
  | .matchReg => .rdMatchReg
  | .captureReg => .rdCaptureReg
  | .counter => .rdCounter
  | .ocuCtrl => .rdOcuCtrl
  | .ocuCompare => .rdOcuCompare
  | .ocuCompareNxt => .rdOcuCompareNxt
  | .wfgCtrl => .rdWfgCtrl
  | .adcSel => .rdAdcSel
  | .arbCause => .rdArbCause
  | .evt .start .sel => .rdStartSel
  | .evt .start .and => .rdStartAnd
  | .evt .start .or => .rdStartOr
  | .evt .stop .sel => .rdStopSel
  | .evt .stop .and => .rdStopAnd
  | .evt .stop .or => .rdStopOr
  | .evt .cont .sel => .rdContSel
  | .evt .cont .and => .rdContAnd
  | .evt .cont .or => .rdContOr
  | .evt .halt .sel => .rdHaltSel
  | .evt .halt .and => .rdHaltAnd
  | .evt .halt .or => .rdHaltOr
  | .evt .increment .sel => .rdIncrementSel
  | .evt .increment .and => .rdIncrementAnd
  | .evt .increment .or => .rdIncrementOr
  | .evt .capture .sel => .rdCaptureSel
  | .evt .capture .and => .rdCaptureAnd
  | .evt .capture .or => .rdCaptureOr
  | .evt .interrupt .sel => .rdInterruptSel
  | .evt .interrupt .and => .rdInterruptAnd
  | .evt .interrupt .or => .rdInterruptOr
  | .evt .output .sel => .rdOutputSel
  | .evt .output .and => .rdOutputAnd
  | .evt .output .or => .rdOutputOr

/-- The instruction that writes `d` to a register. -/
def wrInstr (d : Word) : Reg → Instr
  | .genCtrlSet => .wrGenCtrlSet d
  | .genCtrlReset => .wrGenCtrlReset d
  | .intrSts => .wrIntrSts d
  | .intrMask => .wrIntrMask d
  | .intrUnmask => .wrIntrUnmask d
  | .intrAck => .wrIntrAck d
  | .matchReg => .wrMatchReg d
  | .captureReg => .wrCaptureReg d
  | .counter => .wrCounter d
  | .ocuCtrl => .wrOcuCtrl d
  | .ocuCompare => .wrOcuCompare d
  | .ocuCompareNxt => .wrOcuCompareNxt d
  | .wfgCtrl => .wrWfgCtrl d
  | .adcSel => .wrAdcSel d
  | .arbCause => .wrArbCause d
  | .evt .start .sel => .wrStartSel d
  | .evt .start .and => .wrStartAnd d
  | .evt .start .or => .wrStartOr d
  | .evt .stop .sel => .wrStopSel d
  | .evt .stop .and => .wrStopAnd d
  | .evt .stop .or => .wrStopOr d
  | .evt .cont .sel => .wrContSel d
  | .evt .cont .and => .wrContAnd d
  | .evt .cont .or => .wrContOr d
  | .evt .halt .sel => .wrHaltSel d
  | .evt .halt .and => .wrHaltAnd d
  | .evt .halt .or => .wrHaltOr d
  | .evt .increment .sel => .wrIncrementSel d
  | .evt .increment .and => .wrIncrementAnd d
  | .evt .increment .or => .wrIncrementOr d
  | .evt .capture .sel => .wrCaptureSel d
  | .evt .capture .and => .wrCaptureAnd d
  | .evt .capture .or => .wrCaptureOr d
  | .evt .interrupt .sel => .wrInterruptSel d
  | .evt .interrupt .and => .wrInterruptAnd d
  | .evt .interrupt .or => .wrInterruptOr d
  | .evt .output .sel => .wrOutputSel d
  | .evt .output .and => .wrOutputAnd d
  | .evt .output .or => .wrOutputOr d

/-- The instruction of an operation (30_encoding.md R144: one row per kind and register). -/
def Instr.ofOp : Op → Instr
  | .rd r => rdInstr r
  | .wr r d => wrInstr d r
  | .tick inp => .tick inp
  | .svc => .svc
  | .rst => .rst

/-- The operation an instruction is. -/
def Instr.toOp : Instr → Op
  | .rdGenCtrlSet => .rd .genCtrlSet
  | .wrGenCtrlSet d => .wr .genCtrlSet d
  | .rdGenCtrlReset => .rd .genCtrlReset
  | .wrGenCtrlReset d => .wr .genCtrlReset d
  | .rdIntrSts => .rd .intrSts
  | .wrIntrSts d => .wr .intrSts d
  | .rdIntrMask => .rd .intrMask
  | .wrIntrMask d => .wr .intrMask d
  | .rdIntrUnmask => .rd .intrUnmask
  | .wrIntrUnmask d => .wr .intrUnmask d
  | .rdIntrAck => .rd .intrAck
  | .wrIntrAck d => .wr .intrAck d
  | .rdMatchReg => .rd .matchReg
  | .wrMatchReg d => .wr .matchReg d
  | .rdCaptureReg => .rd .captureReg
  | .wrCaptureReg d => .wr .captureReg d
  | .rdCounter => .rd .counter
  | .wrCounter d => .wr .counter d
  | .rdOcuCtrl => .rd .ocuCtrl
  | .wrOcuCtrl d => .wr .ocuCtrl d
  | .rdOcuCompare => .rd .ocuCompare
  | .wrOcuCompare d => .wr .ocuCompare d
  | .rdOcuCompareNxt => .rd .ocuCompareNxt
  | .wrOcuCompareNxt d => .wr .ocuCompareNxt d
  | .rdWfgCtrl => .rd .wfgCtrl
  | .wrWfgCtrl d => .wr .wfgCtrl d
  | .rdAdcSel => .rd .adcSel
  | .wrAdcSel d => .wr .adcSel d
  | .rdArbCause => .rd .arbCause
  | .wrArbCause d => .wr .arbCause d
  | .rdStartSel => .rd (.evt .start .sel)
  | .wrStartSel d => .wr (.evt .start .sel) d
  | .rdStartAnd => .rd (.evt .start .and)
  | .wrStartAnd d => .wr (.evt .start .and) d
  | .rdStartOr => .rd (.evt .start .or)
  | .wrStartOr d => .wr (.evt .start .or) d
  | .rdStopSel => .rd (.evt .stop .sel)
  | .wrStopSel d => .wr (.evt .stop .sel) d
  | .rdStopAnd => .rd (.evt .stop .and)
  | .wrStopAnd d => .wr (.evt .stop .and) d
  | .rdStopOr => .rd (.evt .stop .or)
  | .wrStopOr d => .wr (.evt .stop .or) d
  | .rdContSel => .rd (.evt .cont .sel)
  | .wrContSel d => .wr (.evt .cont .sel) d
  | .rdContAnd => .rd (.evt .cont .and)
  | .wrContAnd d => .wr (.evt .cont .and) d
  | .rdContOr => .rd (.evt .cont .or)
  | .wrContOr d => .wr (.evt .cont .or) d
  | .rdHaltSel => .rd (.evt .halt .sel)
  | .wrHaltSel d => .wr (.evt .halt .sel) d
  | .rdHaltAnd => .rd (.evt .halt .and)
  | .wrHaltAnd d => .wr (.evt .halt .and) d
  | .rdHaltOr => .rd (.evt .halt .or)
  | .wrHaltOr d => .wr (.evt .halt .or) d
  | .rdIncrementSel => .rd (.evt .increment .sel)
  | .wrIncrementSel d => .wr (.evt .increment .sel) d
  | .rdIncrementAnd => .rd (.evt .increment .and)
  | .wrIncrementAnd d => .wr (.evt .increment .and) d
  | .rdIncrementOr => .rd (.evt .increment .or)
  | .wrIncrementOr d => .wr (.evt .increment .or) d
  | .rdCaptureSel => .rd (.evt .capture .sel)
  | .wrCaptureSel d => .wr (.evt .capture .sel) d
  | .rdCaptureAnd => .rd (.evt .capture .and)
  | .wrCaptureAnd d => .wr (.evt .capture .and) d
  | .rdCaptureOr => .rd (.evt .capture .or)
  | .wrCaptureOr d => .wr (.evt .capture .or) d
  | .rdInterruptSel => .rd (.evt .interrupt .sel)
  | .wrInterruptSel d => .wr (.evt .interrupt .sel) d
  | .rdInterruptAnd => .rd (.evt .interrupt .and)
  | .wrInterruptAnd d => .wr (.evt .interrupt .and) d
  | .rdInterruptOr => .rd (.evt .interrupt .or)
  | .wrInterruptOr d => .wr (.evt .interrupt .or) d
  | .rdOutputSel => .rd (.evt .output .sel)
  | .wrOutputSel d => .wr (.evt .output .sel) d
  | .rdOutputAnd => .rd (.evt .output .and)
  | .wrOutputAnd d => .wr (.evt .output .and) d
  | .rdOutputOr => .rd (.evt .output .or)
  | .wrOutputOr d => .wr (.evt .output .or) d
  | .tick inp => .tick inp
  | .svc => .svc
  | .rst => .rst

/-- The two kinds of `BusError`, `Misaligned` = 1 and `Unmapped` = 2 (60_exceptions.md R350). -/
inductive BusErrorKind where
  | misaligned
  | unmapped
deriving DecidableEq, Repr

/-- The code of a `BusError` kind (60_exceptions.md R350 to R352). -/
def BusErrorKind.code : BusErrorKind → Nat
  | .misaligned => 1
  | .unmapped => 2

/-- What a command word spells. -/
inductive Decoded where
  /-- An operation of the opcode table. -/
  | instr (i : Instr)
  /-- A legal access to no register: the operation that raises `BusError` (30_encoding.md R119). -/
  | noRegister (kind : BusErrorKind) (dir : Dir) (off : Offset)
  /-- No operation (30_encoding.md R118). -/
  | illegal (why : IllegalWord)
deriving DecidableEq, Repr

/-- A bus access: alignment is checked first, then the map (60_exceptions.md R351 to R353). -/
def decodeAccess (m : RegMap) (dir : Dir) (off : Offset) (data : Word) : Decoded :=
  if off.extractLsb' 0 2 ≠ 0 then .noRegister .misaligned dir off
  else
    match regAt m off with
    | none => .noRegister .unmapped dir off
    | some r =>
      match dir with
      | .read => .instr (rdInstr r)
      | .write => .instr (wrInstr data r)

/-- The decoder over a register map: total on every 48-bit word (30_encoding.md R111, R118, R119). -/
def decodeWith (m : RegMap) (w : CommandWord) : Decoded :=
  if w.kind = 0 then
    if w.data = 0 then decodeAccess m .read w.off 0 else .illegal .readWithData
  else if w.kind = 1 then decodeAccess m .write w.off w.data
  else if w.kind = 2 then
    if w.off = 0 ∧ w.data.extractLsb' 4 28 = 0 then .instr (.tick (w.data.extractLsb' 0 4))
    else .illegal .tickFields
  else if w.kind = 3 then
    if w.off = 0 ∧ w.data = 0 then .instr .svc else .illegal .systemFields
  else if w.kind = 4 then
    if w.off = 0 ∧ w.data = 0 then .instr .rst else .illegal .systemFields
  else .illegal .reservedKind

/-- The decoder over the default map. -/
def decode (w : CommandWord) : Decoded := decodeWith defaultRegMap w

/-- The command word of an operation over a register map (30_encoding.md R111, R121). -/
def encodeOp (m : RegMap) : Op → CommandWord
  | .rd r => .make 0 (m r) 0
  | .wr r d => .make 1 (m r) d
  | .tick inp => .make 2 0 (inp.setWidth 32)
  | .svc => .make 3 0 0
  | .rst => .make 4 0 0

/-- The encoder over a register map. -/
def encodeWith (m : RegMap) (i : Instr) : CommandWord := encodeOp m i.toOp

/-- The encoder over the default map. -/
def encode (i : Instr) : CommandWord := encodeWith defaultRegMap i

/-- The instruction the decoder reads from a word given as a number of `nbits` bits, bit 0 the least
significant bit of the one 48-bit command word (30_encoding.md R111; log 19). -/
def decodeTableWord (nbits w : Nat) : Option Instr :=
  let v := w % 2 ^ nbits
  if v < 2 ^ 48 then
    match decode (BitVec.ofNat 48 v) with
    | .instr i => some i
    | .noRegister _ _ _ => none
    | .illegal _ => none
  else none

end Sys2Proof
end

