-- ==== Sys2Proof/Machine/State.lean ====
section
/-! DEFINITION. The architectural state (10_state.md R20), the answers operations give (30_encoding.md R112),
the reasons a step can stop, and the state after reset (10_state.md R57, 48_system_ops.md R342). -/

namespace Sys2Proof.Machine

/-- One register per action: the shape of `EVT_SEL`, `EVT_AND` and `EVT_OR` (10_state.md R49). -/
structure ActionRegs where
  start : Word
  stop : Word
  cont : Word
  halt : Word
  increment : Word
  capture : Word
  interrupt : Word
  output : Word
deriving DecidableEq, Repr

/-- The one-bit elements of a channel (10_state.md R33, R40 to R43). -/
structure ChanState where
  /-- `RUN_c`: the counter is started (R40). -/
  run : Bool
  /-- `HALT_c`: started but paused (R41). -/
  halt : Bool
  /-- `PHASE_c`: in the up-down direction, 0 ascending and 1 descending (R42). -/
  phase : Bool
  /-- `NXT_VALID_c`: a compare value is pending (R33). -/
  nxtValid : Bool
  /-- `OUT_c`: the level on output line `out[c]` (R43). -/
  out : Bool
deriving DecidableEq, Repr

/-- The state of the block: "exactly the following, and nothing else changes between operations"
(10_state.md R20). -/
structure Block where
  /-- `LEVEL`: the stored bits of the control word (R26 to R30). -/
  level : Word
  /-- `STS`, seen through INTR_STS (R35). -/
  sts : Word
  /-- `MASK`, seen through INTR_MASK and INTR_UNMASK (R36). -/
  mask : Word
  /-- `MATCH` (R24). -/
  matchReg : Word
  /-- `COUNTER` (R23). -/
  counter : Word
  /-- `CAPTURE` (R25). -/
  captureReg : Word
  /-- `OCU_CTRL` (R44). -/
  ocuCtrl : Word
  /-- `OCU_COMPARE` (R31). -/
  ocuCompare : Word
  /-- `OCU_COMPARE_NXT` (R32). -/
  ocuCompareNxt : Word
  /-- `WFG_CTRL` (R47). -/
  wfgCtrl : Word
  /-- `ADC_SEL` (R48). -/
  adcSel : Word
  /-- `EVT_SEL[a]` (R50). -/
  evtSel : ActionRegs
  /-- `EVT_AND[a]` (R51). -/
  evtAnd : ActionRegs
  /-- `EVT_OR[a]` (R51). -/
  evtOr : ActionRegs
  /-- `RUN_0`, `HALT_0`, `PHASE_0`, `NXT_VALID_0`, `OUT_0`. -/
  ch0 : ChanState
  /-- `RUN_1`, `HALT_1`, `PHASE_1`, `NXT_VALID_1`, `OUT_1`. -/
  ch1 : ChanState
  /-- `PREV_IN` (R52). -/
  prevIn : BitVec 4
  /-- `RISE_REG` (R53). -/
  riseReg : BitVec 4
deriving DecidableEq, Repr

/-- What an operation answers to the agent that issued it (30_encoding.md R112, 60_exceptions.md R350). -/
inductive Response where
  /-- Nothing is returned: a `WR`, a `TICK` or a `RST` that was performed. -/
  | ok
  /-- The 32-bit value an `RD` returns. -/
  | data (v : Word)
  /-- The 4-bit cause code an `SVC` returns, 0 for none. -/
  | cause (code : BitVec 4)
  /-- The error response of an access, "carrying the kind, the byte offset and whether the access was a read
  or a write" (60_exceptions.md R350). -/
  | busError (kind : BusErrorKind) (dir : Dir) (off : Offset)
deriving DecidableEq, Repr

/-- The machine: the block, and three fields of the MODEL's own (log 2, log 4, log 24). -/
structure State extends Block where
  /-- The operations the agents have issued and the block has not yet taken, in their one total order,
  oldest first (00_scope.md R10, 20_memory.md R95; log 2). -/
  issued : List CommandWord
  /-- The answer of the last operation (30_encoding.md R112; log 4). -/
  resp : Response
  /-- Whether the platform's peripheral clock is on (60_exceptions.md R371; log 24): an input from outside the
  block, which no operation changes. -/
  clockOn : Bool
deriving DecidableEq, Repr

/-- The reasons the machine stops with a fault. There are none: the only synchronous exception of the block
is `BusError`, an error response to one access after which the block goes on (60_exceptions.md R350), and the
model takes it as a next state (log 1). Raised by nobody; safe. -/
inductive Fault where
deriving DecidableEq, Repr

/-- The reasons the machine gives no result. -/
inductive Refusal where
  /-- An instruction with no meaning yet. Raised by the dispatch alone, and now by no arm of it. Safe. -/
  | notModelled (mnemonic : String)
  /-- A `TICK` while `SYNC_EN_0` or `SYNC_EN_1` is 1 (45_tick_events.md R261 a). Raised by `TICK`. Safe: the
  spec says that a model must not invent a result. -/
  | channelSync
  /-- A `TICK` while a select field holds a code from 39 to 63 (45_tick_events.md R261 b). Raised by `TICK`.
  Safe: the spec says that a model must not invent a result. -/
  | reservedEventCode
  /-- A command word that spells no operation (30_encoding.md R118). Raised by the step at the decoder. Safe:
  "the block is not touched". -/
  | illegalWord (why : IllegalWord)
  /-- An `RD` or `WR` while the peripheral clock is off, over a parameter `BUS_WHEN_GATED` by which it does not
  succeed (60_exceptions.md R371). Raised by `deliver`, and never over the default parameters. Safe: the spec does
  not say what such an access does (log 9). -/
  | gatedAccess
deriving DecidableEq, Repr

/-- The outcome of an operation on this machine. -/
abbrev Result := Host.Outcome State Fault Refusal

/-- Eight registers of zeros. -/
def ActionRegs.zero : ActionRegs := ⟨0, 0, 0, 0, 0, 0, 0, 0⟩

/-- A stopped channel with nothing pending and its output low. -/
def ChanState.zero : ChanState := ⟨false, false, false, false, false⟩

/-- The block after `RST`: "all registers and hidden bits 0, except `MASK = 0x000F000F`"
(70_reset_and_hazards.md R391, 10_state.md R57). -/
def Block.reset : Block where
  level := 0
  sts := 0
  mask := 0x000F000F#32
  matchReg := 0
  counter := 0
  captureReg := 0
  ocuCtrl := 0
  ocuCompare := 0
  ocuCompareNxt := 0
  wfgCtrl := 0
  adcSel := 0
  evtSel := .zero
  evtAnd := .zero
  evtOr := .zero
  ch0 := .zero
  ch1 := .zero
  prevIn := 0
  riseReg := 0

/-- The machine right after reset: the block after `RST`, with nothing issued yet (log 2, log 4) and the peripheral clock
on, a DESIGN CHOICE: the spec does not say whether the platform has enabled it (log 24). -/
def State.reset : State where
  toBlock := .reset
  issued := []
  resp := .ok
  clockOn := true

end Sys2Proof.Machine
end

