-- ==== Sys2Proof/Machine/Operands.lean ====
section
/-! DEFINITION. The operand forms: implemented-bit masks, channel slices of the packed words, per-channel fields
of the control, OCU and WFG words, and the fields of the event registers (00_scope.md R8, 10_state.md R26 to
R51). -/

namespace Sys2Proof

/-- The distance of a channel's fields from counter 0's (00_scope.md R8). -/
def Channel.shift : Channel → Nat
  | .c0 => 0
  | .c1 => Config.counterOffset

/-- The other channel. -/
def Channel.other : Channel → Channel
  | .c0 => .c1
  | .c1 => .c0

end Sys2Proof

namespace Sys2Proof.Machine

/-! ### Implemented bits -/

/-- `LEVEL_MASK` (10_state.md R27). -/
def levelMask : Word := 0x00F400F5#32

/-- `CAUSE_BITS` (10_state.md R35). -/
def causeBits : Word := 0x000F000F#32

/-- `OCU_MASK` (10_state.md R44). -/
def ocuMask : Word := 0x02730273#32

/-- `WFG_MASK` (10_state.md R47). -/
def wfgMask : Word := 0x00030003#32

/-- `ADC_MASK` (10_state.md R48). -/
def adcMask : Word := 0x000000FF#32

/-- `SEL_MASK` (10_state.md R50). -/
def selMask : Word := 0x003F003F#32

/-- `COMB_MASK` (10_state.md R51). -/
def combMask : Word := 0x0F3F0F3F#32

/-- The bit positions of the control word, counter 0 (10_state.md R27, R28). -/
def softResetBit : Nat := 1
/-- `PERIODIC_0` (10_state.md R27). -/
def periodicBit : Nat := 2
/-- `TRIG_0` (10_state.md R28). -/
def trigBit : Nat := 3
/-- The low bit of `DIR_0` (10_state.md R27, R29). -/
def dirBit : Nat := 4
/-- `SYNC_TRIG_0` (10_state.md R27). -/
def syncTrigBit : Nat := 6
/-- `BUF_EN_0` (10_state.md R27). -/
def bufEnBit : Nat := 7

/-- `OCU_OUT_EN_0` (10_state.md R44). -/
def ocuOutEnBit : Nat := 0
/-- `SYNC_EN_0` (10_state.md R44). -/
def syncEnBit : Nat := 1
/-- `DMA_EN_0` (10_state.md R44). -/
def dmaEnBit : Nat := 4
/-- `MODE_8BIT_0` (10_state.md R44). -/
def mode8Bit : Nat := 5
/-- `OUT_HIGH_SEL_0` (10_state.md R44). -/
def outHighSelBit : Nat := 6
/-- `OUT_LOW_SEL_0` (10_state.md R44). -/
def outLowSelBit : Nat := 9

/-! ### Channels -/

/-- The bit of a word at counter-0 position `p`, for channel `c` (00_scope.md R8: `FIELD_c` at `p + 16c`). -/
def chanBit (w : Word) (p : Nat) (c : Channel) : Bool := w.getLsbD (p + c.shift)

/-- `MODE32` (10_state.md R27). -/
def Block.mode32 (b : Block) : Bool := b.level.getLsbD 0

/-- The active channels (00_scope.md R8). -/
def activeChannels (mode32 : Bool) : List Channel := if mode32 then [.c0] else [.c0, .c1]

/-- The largest count of an active channel, `MAX` (00_scope.md R8). -/
def maxCount (mode32 : Bool) : Word := if mode32 then 0xFFFFFFFF#32 else 0x0000FFFF#32

/-- `slice(word, c)`, extended with zeros to 32 bits (00_scope.md R7, R8). -/
def slice (mode32 : Bool) (w : Word) (c : Channel) : Word :=
  if mode32 then w
  else
    match c with
    | .c0 => (w.extractLsb' 0 16).setWidth 32
    | .c1 => (w.extractLsb' 16 16).setWidth 32

/-- `slice(word, c) <- v`: the other bits of the word stay (00_scope.md R8). -/
def putSlice (mode32 : Bool) (w : Word) (c : Channel) (v : Word) : Word :=
  if mode32 then v
  else
    match c with
    | .c0 => w.extractLsb' 16 16 ++ v.extractLsb' 0 16
    | .c1 => v.extractLsb' 0 16 ++ w.extractLsb' 0 16

/-- The one-bit elements of a channel. -/
def Block.chan (b : Block) : Channel → ChanState
  | .c0 => b.ch0
  | .c1 => b.ch1

/-- The block with one channel's one-bit elements replaced. -/
def Block.setChan (b : Block) (c : Channel) (x : ChanState) : Block :=
  match c with
  | .c0 => { b with ch0 := x }
  | .c1 => { b with ch1 := x }

/-! ### Fields of the control word -/

/-- The counting directions (10_state.md R29). -/
inductive Direction where
  | up
  | down
  | upDown
deriving DecidableEq, Repr

/-- The value of a direction field: 0b00 counts up, exactly as 0b01 (10_state.md R29, 90_conflicts.md C1). -/
def Direction.ofBits (v : BitVec 2) : Direction :=
  if v = 0b10#2 then .down else if v = 0b11#2 then .upDown else .up

/-- `DIR_c` (10_state.md R29). -/
def Block.direction (b : Block) (c : Channel) : Direction :=
  .ofBits (b.level.extractLsb' (dirBit + c.shift) 2)

/-- `PERIODIC_c` (10_state.md R27). -/
def Block.periodic (b : Block) (c : Channel) : Bool := chanBit b.level periodicBit c

/-- `SYNC_TRIG_c` (10_state.md R27). -/
def Block.syncTrig (b : Block) (c : Channel) : Bool := chanBit b.level syncTrigBit c

/-- `BUF_EN_c` (10_state.md R27). -/
def Block.bufEn (b : Block) (c : Channel) : Bool := chanBit b.level bufEnBit c

/-! ### Fields of OCU_CTRL and WFG_CTRL -/

/-- `OCU_OUT_EN_c` (10_state.md R44). -/
def Block.ocuOutEn (b : Block) (c : Channel) : Bool := chanBit b.ocuCtrl ocuOutEnBit c

/-- `SYNC_EN_c` (10_state.md R44, R45). -/
def Block.syncEn (b : Block) (c : Channel) : Bool := chanBit b.ocuCtrl syncEnBit c

/-- `DMA_EN_c` (10_state.md R44). -/
def Block.dmaEn (b : Block) (c : Channel) : Bool := chanBit b.ocuCtrl dmaEnBit c

/-- `MODE_8BIT_c` (10_state.md R44). -/
def Block.mode8 (b : Block) (c : Channel) : Bool := chanBit b.ocuCtrl mode8Bit c

/-- `OUT_HIGH_SEL_c` (10_state.md R44). -/
def Block.outHighSel (b : Block) (c : Channel) : Bool := chanBit b.ocuCtrl outHighSelBit c

/-- `OUT_LOW_SEL_c` (10_state.md R44). -/
def Block.outLowSel (b : Block) (c : Channel) : Bool := chanBit b.ocuCtrl outLowSelBit c

/-- What a compare match does to the output (10_state.md R47). -/
inductive ToggleSelect where
  | nothing
  | high
  | low
  | toggle
deriving DecidableEq, Repr

/-- The value of a toggle-select field (10_state.md R47). -/
def ToggleSelect.ofBits (v : BitVec 2) : ToggleSelect :=
  if v = 0b00#2 then .nothing else if v = 0b01#2 then .high else if v = 0b10#2 then .low else .toggle

/-- `TGL_SEL_c` (10_state.md R47). -/
def Block.toggleSelect (b : Block) (c : Channel) : ToggleSelect :=
  .ofBits (b.wfgCtrl.extractLsb' c.shift 2)

/-! ### Event registers -/

/-- The register of one action. -/
def ActionRegs.get (r : ActionRegs) : Action → Word
  | .start => r.start
  | .stop => r.stop
  | .cont => r.cont
  | .halt => r.halt
  | .increment => r.increment
  | .capture => r.capture
  | .interrupt => r.interrupt
  | .output => r.output

/-- The registers with that of one action replaced. -/
def ActionRegs.set (r : ActionRegs) (a : Action) (v : Word) : ActionRegs :=
  match a with
  | .start => { r with start := v }
  | .stop => { r with stop := v }
  | .cont => { r with cont := v }
  | .halt => { r with halt := v }
  | .increment => { r with increment := v }
  | .capture => { r with capture := v }
  | .interrupt => { r with interrupt := v }
  | .output => { r with output := v }

/-- `EV_c` of a select word: bits 5:0 and 21:16 (10_state.md R50). -/
def eventField (w : Word) (c : Channel) : BitVec 6 := w.extractLsb' c.shift 6

/-- The required levels of a combiner word: bits 3:0 and 19:16 (45_tick_events.md R266, R267). -/
def levelField (w : Word) (c : Channel) : BitVec 4 := w.extractLsb' c.shift 4

/-- The valid bits of a combiner word: bits 11:8 and 27:24 (10_state.md R51). -/
def validField (w : Word) (c : Channel) : BitVec 4 := w.extractLsb' (8 + c.shift) 4

end Sys2Proof.Machine
end

