-- ==== Sys2Proof/Machine/Flags.lean ====
section
/-! DEFINITION. The eight status bits, the arbiter and the output ports (10_state.md R35, R58; 60_exceptions.md
R354 to R358; 43_ocu_wfg_regs.md R226). The block has no other flags (10_state.md R39). -/

namespace Sys2Proof.Machine

/-- The four interrupt causes of a counter (10_state.md R35). -/
inductive Cause where
  | event
  | fifoFull
  | zero
  | peak
deriving DecidableEq, Repr

/-- The bit number of a counter-0 cause (10_state.md R35). -/
def Cause.bit : Cause → Nat
  | .event => 0
  | .fifoFull => 1
  | .zero => 2
  | .peak => 3

/-- The status word with the bit of one cause of one channel alone (10_state.md R35). -/
def causeWord (k : Cause) (c : Channel) : Word := BitVec.twoPow 32 (k.bit + c.shift)

/-- A cause becomes pending when its condition holds, and stays pending otherwise (60_exceptions.md R355). -/
def raiseCause (cond : Bool) (k : Cause) (c : Channel) (sts : Word) : Word :=
  if cond then sts ||| causeWord k c else sts

/-- The order in which the arbiter scans the causes (60_exceptions.md R356). -/
def arbiterOrder : List (Cause × Channel) :=
  [(.peak, .c0), (.peak, .c1), (.event, .c0), (.fifoFull, .c0), (.zero, .c0), (.event, .c1),
   (.fifoFull, .c1), (.zero, .c1)]

/-- Whether a cause is pending (60_exceptions.md R355). -/
def pending (sts : Word) (k : Cause) (c : Channel) : Bool := sts.getLsbD (k.bit + c.shift)

/-- The cause code: the position in the arbiter's order, from 1 (60_exceptions.md R356). -/
def causeCode : Cause → Channel → BitVec 4
  | .peak, .c0 => 1
  | .peak, .c1 => 2
  | .event, .c0 => 3
  | .fifoFull, .c0 => 4
  | .zero, .c0 => 5
  | .event, .c1 => 6
  | .fifoFull, .c1 => 7
  | .zero, .c1 => 8

/-- The first pending cause in the arbiter's order, over raw status (60_exceptions.md R356, R358). -/
def arbiterWinner (sts : Word) : Option (Cause × Channel) :=
  arbiterOrder.find? fun p => pending sts p.1 p.2

/-- `arb_cause[3:0]` (60_exceptions.md R356). -/
def arbCause (sts : Word) : BitVec 4 :=
  match arbiterWinner sts with
  | none => 0
  | some (k, c) => causeCode k c

/-- The status word with the winner's bit cleared (48_system_ops.md R341). -/
def clearWinner (sts : Word) : Word :=
  match arbiterWinner sts with
  | none => sts
  | some (k, c) => sts &&& ~~~(causeWord k c)

/-- The port `irq`: high while a cause is pending and enabled (60_exceptions.md R357). -/
def irq (b : Block) : Bool := b.sts &&& ~~~b.mask &&& causeBits != 0

/-- The port `out[c]` (10_state.md R58, 47_tick_output.md R320). -/
def out (b : Block) (c : Channel) : Bool := (b.chan c).out

/-- The port `dma_req[c]` (43_ocu_wfg_regs.md R226). -/
def dmaReq (b : Block) : Channel → Bool
  | .c0 => b.dmaEn .c0 && !b.ch0.nxtValid
  | .c1 => !b.mode32 && (b.dmaEn .c1 && !b.ch1.nxtValid)

end Sys2Proof.Machine
end

