-- ==== Sys2Proof/Machine/Ops.lean ====
section
/-! DEFINITION. The named operations the meanings share: answering an agent, raising `BusError`, starting,
stopping and soft-resetting a counter, and the buffered compare write. -/

namespace Sys2Proof.Machine

/-! ### Answers -/

/-- The state with an answer given to the agent (30_encoding.md R112). -/
def State.answer (s : State) (r : Response) : State := { s with resp := r }

/-- The state with the block replaced. -/
def State.withBlock (s : State) (b : Block) : State := { s with toBlock := b }

/-- An `RD` that returns `v`: no state of the block changes (20_memory.md R85). -/
def readsAs (v : Word) (s : State) : Result := .next (s.answer (.data v))

/-- A `WR`, `TICK` or `RST` that leaves the block as `b` and returns nothing (30_encoding.md R112). -/
def leavesBlock (b : Block) (s : State) : Result := .next ((s.withBlock b).answer .ok)

/-- Taking the block's one exception: "State is unchanged; an `RD` returns no data", and the issuing agent
gets the error response with the kind, the offset and the direction. "The block records nothing about it"
(60_exceptions.md R350 to R353; log 1). There is no return operation (60_exceptions.md R363). -/
def raiseBusError (kind : BusErrorKind) (dir : Dir) (off : Offset) (s : State) : Result :=
  .next (s.answer (.busError kind dir off))

/-! ### Run state -/

/-- A started channel: `RUN_c <- 1`, `HALT_c <- 0`, `PHASE_c <- 0` (40_control_regs.md R154). -/
def ChanState.started (x : ChanState) : ChanState := { x with run := true, halt := false, phase := false }

/-- A channel whose run state is cleared: `RUN_c <- 0`, `HALT_c <- 0`, `PHASE_c <- 0` (40_control_regs.md R153). -/
def ChanState.stopped (x : ChanState) : ChanState := { x with run := false, halt := false, phase := false }

/-- Soft reset of a channel: its count slice and its run state, and nothing else (40_control_regs.md R153). -/
def Block.softReset (b : Block) (c : Channel) : Block :=
  { b.setChan c (b.chan c).stopped with counter := putSlice b.mode32 b.counter c 0 }

/-- Start of a channel: its run state, and nothing else; the count is kept (40_control_regs.md R154). -/
def Block.startChannel (b : Block) (c : Channel) : Block := b.setChan c (b.chan c).started

/-- Step 1 of a control-set write: level bits are only set (40_control_regs.md R152). -/
def Block.setLevel (b : Block) (d : Word) : Block := { b with level := b.level ||| (d &&& levelMask) }

/-- Step 2 of a control-set write: the soft-reset pulses of the active channels (40_control_regs.md R153). -/
def Block.softResets (b : Block) (d : Word) : Block :=
  (activeChannels b.mode32).foldl (fun b c => if chanBit d softResetBit c then b.softReset c else b) b

/-- Whether a control-set write starts channel `c`: its own trigger, or in 16-bit mode the other counter's
trigger with `SYNC_TRIG_c` set (40_control_regs.md R151 step 3, R154). -/
def Block.triggered (b : Block) (d : Word) (c : Channel) : Bool :=
  chanBit d trigBit c || (!b.mode32 && b.syncTrig c && chanBit d trigBit c.other)

/-- Step 3 of a control-set write: the trigger pulses of the active channels (40_control_regs.md R154). -/
def Block.triggers (b : Block) (d : Word) : Block :=
  (activeChannels b.mode32).foldl (fun b c => if b.triggered d c then b.startChannel c else b) b

/-! ### The buffered compare value -/

/-- What a write of OCU_COMPARE_NXT does to one active channel (43_ocu_wfg_regs.md R218). -/
def Block.bufferCompare (d : Word) (b : Block) (c : Channel) : Block :=
  if b.bufEn c then
    { b.setChan c { b.chan c with nxtValid := true } with
      sts := raiseCause ((b.chan c).nxtValid && b.dmaEn c) .fifoFull c b.sts }
  else { b with ocuCompare := putSlice b.mode32 b.ocuCompare c (slice b.mode32 d c) }

end Sys2Proof.Machine
end

