-- ==== Sys2Proof/Machine/ControlRegs.lean ====
section
/-! DEFINITION. The control-word operations (40_control_regs.md). -/

namespace Sys2Proof.Machine

/-- `WR.GEN_CTRL_SET`: level bits first, soft reset second, trigger third, the
active channels taken from the new `MODE32` (40_control_regs.md R151). -/
def execWrGenCtrlSet (d : Word) (s : State) : Result := 
  leavesBlock (((s.setLevel d).softResets d).triggers d) s

/-- `RD.GEN_CTRL_SET`: returns `LEVEL` (40_control_regs.md R155). -/
def execRdGenCtrlSet (s : State) : Result := readsAs s.level s

/-- `WR.GEN_CTRL_RESET`: clears the level bits written 1; pulse and reserved bits do nothing (40_control_regs.md R156). -/
def execWrGenCtrlReset (d : Word) (s : State) : Result := 
  leavesBlock { s.toBlock with level := s.level &&& ~~~(d &&& levelMask) } s

/-- `RD.GEN_CTRL_RESET`: returns `LEVEL`, the same value as `RD.GEN_CTRL_SET` (40_control_regs.md R157). -/
def execRdGenCtrlReset (s : State) : Result := readsAs s.level s

end Sys2Proof.Machine
end

