-- ==== Sys2Proof/Machine/CounterRegs.lean ====
section
/-! DEFINITION. The counter data register operations (41_counter_data_regs.md). -/

namespace Sys2Proof.Machine

/-- `WR.COUNTER`: replaces the live count, both halves (41_counter_data_regs.md R171). -/
def execWrCounter (d : Word) (s : State) : Result := 
  leavesBlock { s.toBlock with counter := d } s

/-- `RD.COUNTER`: returns the live count, without latching or disturbing it (41_counter_data_regs.md R172). -/
def execRdCounter (s : State) : Result := readsAs s.counter s

/-- `WR.MATCH`: replaces the match values, both halves (41_counter_data_regs.md R173). -/
def execWrMatchReg (d : Word) (s : State) : Result := 
  leavesBlock { s.toBlock with matchReg := d } s

/-- `RD.MATCH`: returns the match values (41_counter_data_regs.md R174). -/
def execRdMatchReg (s : State) : Result := readsAs s.matchReg s

/-- `WR.CAPTURE`: a read-only register; accepted without error and ignored, whatever is written
(41_counter_data_regs.md R175, 20_memory.md R87). -/
def execWrCaptureReg (_d : Word) (s : State) : Result := leavesBlock s.toBlock s

/-- `RD.CAPTURE`: returns the captured counts (41_counter_data_regs.md R176). -/
def execRdCaptureReg (s : State) : Result := readsAs s.captureReg s

end Sys2Proof.Machine
end

