-- ==== Sys2Proof/Machine/EventRegs.lean ====
section
/-! DEFINITION. The 48 event register operations (42_event_regs.md). -/

namespace Sys2Proof.Machine

/-- The shared write of a select register: the implemented bits are stored (42_event_regs.md R430). -/
def writeSelect (a : Action) (d : Word) (s : State) : Result :=
  leavesBlock { s.toBlock with evtSel := s.evtSel.set a (d &&& selMask) } s

/-- The shared write of an AND-event register: the implemented bits are stored (42_event_regs.md R430). -/
def writeAnd (a : Action) (d : Word) (s : State) : Result :=
  leavesBlock { s.toBlock with evtAnd := s.evtAnd.set a (d &&& combMask) } s

/-- The shared write of an OR-event register: the implemented bits are stored (42_event_regs.md R430). -/
def writeOr (a : Action) (d : Word) (s : State) : Result :=
  leavesBlock { s.toBlock with evtOr := s.evtOr.set a (d &&& combMask) } s

/-- `WR.START_SEL`: `EVT_SEL[0]` (42_event_regs.md R431). -/
def execWrStartSel (d : Word) (s : State) : Result := writeSelect .start d s

/-- `RD.START_SEL`: returns `EVT_SEL[0]` (42_event_regs.md R432). -/
def execRdStartSel (s : State) : Result := readsAs s.evtSel.start s

/-- `WR.START_AND`: `EVT_AND[0]` (42_event_regs.md R433). -/
def execWrStartAnd (d : Word) (s : State) : Result := writeAnd .start d s

/-- `RD.START_AND`: returns `EVT_AND[0]` (42_event_regs.md R434). -/
def execRdStartAnd (s : State) : Result := readsAs s.evtAnd.start s

/-- `WR.START_OR`: `EVT_OR[0]` (42_event_regs.md R435). -/
def execWrStartOr (d : Word) (s : State) : Result := writeOr .start d s

/-- `RD.START_OR`: returns `EVT_OR[0]` (42_event_regs.md R436). -/
def execRdStartOr (s : State) : Result := readsAs s.evtOr.start s

/-- `WR.STOP_SEL`: `EVT_SEL[1]` (42_event_regs.md R437). -/
def execWrStopSel (d : Word) (s : State) : Result := writeSelect .stop d s

/-- `RD.STOP_SEL`: returns `EVT_SEL[1]` (42_event_regs.md R438). -/
def execRdStopSel (s : State) : Result := readsAs s.evtSel.stop s

/-- `WR.STOP_AND`: `EVT_AND[1]` (42_event_regs.md R439). -/
def execWrStopAnd (d : Word) (s : State) : Result := writeAnd .stop d s

/-- `RD.STOP_AND`: returns `EVT_AND[1]` (42_event_regs.md R440). -/
def execRdStopAnd (s : State) : Result := readsAs s.evtAnd.stop s

/-- `WR.STOP_OR`: `EVT_OR[1]` (42_event_regs.md R441). -/
def execWrStopOr (d : Word) (s : State) : Result := writeOr .stop d s

/-- `RD.STOP_OR`: returns `EVT_OR[1]` (42_event_regs.md R442). -/
def execRdStopOr (s : State) : Result := readsAs s.evtOr.stop s

/-- `WR.CONTINUE_SEL`: `EVT_SEL[2]` (42_event_regs.md R443). -/
def execWrContSel (d : Word) (s : State) : Result := writeSelect .cont d s

/-- `RD.CONTINUE_SEL`: returns `EVT_SEL[2]` (42_event_regs.md R444). -/
def execRdContSel (s : State) : Result := readsAs s.evtSel.cont s

/-- `WR.CONTINUE_AND`: `EVT_AND[2]` (42_event_regs.md R445). -/
def execWrContAnd (d : Word) (s : State) : Result := writeAnd .cont d s

/-- `RD.CONTINUE_AND`: returns `EVT_AND[2]` (42_event_regs.md R446). -/
def execRdContAnd (s : State) : Result := readsAs s.evtAnd.cont s

/-- `WR.CONTINUE_OR`: `EVT_OR[2]` (42_event_regs.md R447). -/
def execWrContOr (d : Word) (s : State) : Result := writeOr .cont d s

/-- `RD.CONTINUE_OR`: returns `EVT_OR[2]` (42_event_regs.md R448). -/
def execRdContOr (s : State) : Result := readsAs s.evtOr.cont s

/-- `WR.HALT_SEL`: `EVT_SEL[3]` (42_event_regs.md R449). -/
def execWrHaltSel (d : Word) (s : State) : Result := writeSelect .halt d s

/-- `RD.HALT_SEL`: returns `EVT_SEL[3]` (42_event_regs.md R450). -/
def execRdHaltSel (s : State) : Result := readsAs s.evtSel.halt s

/-- `WR.HALT_AND`: `EVT_AND[3]` (42_event_regs.md R451). -/
def execWrHaltAnd (d : Word) (s : State) : Result := writeAnd .halt d s

/-- `RD.HALT_AND`: returns `EVT_AND[3]` (42_event_regs.md R452). -/
def execRdHaltAnd (s : State) : Result := readsAs s.evtAnd.halt s

/-- `WR.HALT_OR`: `EVT_OR[3]` (42_event_regs.md R453). -/
def execWrHaltOr (d : Word) (s : State) : Result := writeOr .halt d s

/-- `RD.HALT_OR`: returns `EVT_OR[3]` (42_event_regs.md R454). -/
def execRdHaltOr (s : State) : Result := readsAs s.evtOr.halt s

/-- `WR.INCREMENT_SEL`: `EVT_SEL[4]` (42_event_regs.md R455). -/
def execWrIncrementSel (d : Word) (s : State) : Result := writeSelect .increment d s

/-- `RD.INCREMENT_SEL`: returns `EVT_SEL[4]` (42_event_regs.md R456). -/
def execRdIncrementSel (s : State) : Result := readsAs s.evtSel.increment s

/-- `WR.INCREMENT_AND`: `EVT_AND[4]` (42_event_regs.md R457). -/
def execWrIncrementAnd (d : Word) (s : State) : Result := writeAnd .increment d s

/-- `RD.INCREMENT_AND`: returns `EVT_AND[4]` (42_event_regs.md R458). -/
def execRdIncrementAnd (s : State) : Result := readsAs s.evtAnd.increment s

/-- `WR.INCREMENT_OR`: `EVT_OR[4]` (42_event_regs.md R459). -/
def execWrIncrementOr (d : Word) (s : State) : Result := writeOr .increment d s

/-- `RD.INCREMENT_OR`: returns `EVT_OR[4]` (42_event_regs.md R460). -/
def execRdIncrementOr (s : State) : Result := readsAs s.evtOr.increment s

/-- `WR.CAPTURE_SEL`: `EVT_SEL[5]` (42_event_regs.md R461). -/
def execWrCaptureSel (d : Word) (s : State) : Result := writeSelect .capture d s

/-- `RD.CAPTURE_SEL`: returns `EVT_SEL[5]` (42_event_regs.md R462). -/
def execRdCaptureSel (s : State) : Result := readsAs s.evtSel.capture s

/-- `WR.CAPTURE_AND`: `EVT_AND[5]` (42_event_regs.md R463). -/
def execWrCaptureAnd (d : Word) (s : State) : Result := writeAnd .capture d s

/-- `RD.CAPTURE_AND`: returns `EVT_AND[5]` (42_event_regs.md R464). -/
def execRdCaptureAnd (s : State) : Result := readsAs s.evtAnd.capture s

/-- `WR.CAPTURE_OR`: `EVT_OR[5]` (42_event_regs.md R465). -/
def execWrCaptureOr (d : Word) (s : State) : Result := writeOr .capture d s

/-- `RD.CAPTURE_OR`: returns `EVT_OR[5]` (42_event_regs.md R466). -/
def execRdCaptureOr (s : State) : Result := readsAs s.evtOr.capture s

/-- `WR.INTERRUPT_SEL`: `EVT_SEL[6]` (42_event_regs.md R467). -/
def execWrInterruptSel (d : Word) (s : State) : Result := writeSelect .interrupt d s

/-- `RD.INTERRUPT_SEL`: returns `EVT_SEL[6]` (42_event_regs.md R468). -/
def execRdInterruptSel (s : State) : Result := readsAs s.evtSel.interrupt s

/-- `WR.INTERRUPT_AND`: `EVT_AND[6]` (42_event_regs.md R469). -/
def execWrInterruptAnd (d : Word) (s : State) : Result := writeAnd .interrupt d s

/-- `RD.INTERRUPT_AND`: returns `EVT_AND[6]` (42_event_regs.md R470). -/
def execRdInterruptAnd (s : State) : Result := readsAs s.evtAnd.interrupt s

/-- `WR.INTERRUPT_OR`: `EVT_OR[6]` (42_event_regs.md R471). -/
def execWrInterruptOr (d : Word) (s : State) : Result := writeOr .interrupt d s

/-- `RD.INTERRUPT_OR`: returns `EVT_OR[6]` (42_event_regs.md R472). -/
def execRdInterruptOr (s : State) : Result := readsAs s.evtOr.interrupt s

/-- `WR.OUTPUT_SEL`: `EVT_SEL[7]` (42_event_regs.md R473). -/
def execWrOutputSel (d : Word) (s : State) : Result := writeSelect .output d s

/-- `RD.OUTPUT_SEL`: returns `EVT_SEL[7]` (42_event_regs.md R474). -/
def execRdOutputSel (s : State) : Result := readsAs s.evtSel.output s

/-- `WR.OUTPUT_AND`: `EVT_AND[7]` (42_event_regs.md R475). -/
def execWrOutputAnd (d : Word) (s : State) : Result := writeAnd .output d s

/-- `RD.OUTPUT_AND`: returns `EVT_AND[7]` (42_event_regs.md R476). -/
def execRdOutputAnd (s : State) : Result := readsAs s.evtAnd.output s

/-- `WR.OUTPUT_OR`: `EVT_OR[7]` (42_event_regs.md R477). -/
def execWrOutputOr (d : Word) (s : State) : Result := writeOr .output d s

/-- `RD.OUTPUT_OR`: returns `EVT_OR[7]` (42_event_regs.md R478). -/
def execRdOutputOr (s : State) : Result := readsAs s.evtOr.output s

end Sys2Proof.Machine
end

