-- ==== Sys2Proof/Machine/InterruptRegs.lean ====
section
/-! DEFINITION. The interrupt register operations (44_interrupt_regs.md). -/

namespace Sys2Proof.Machine

/-- `WR.INTR_STS`: a read-only register; accepted without error and ignored, whatever is written
(44_interrupt_regs.md R241, 20_memory.md R87). -/
def execWrIntrSts (_d : Word) (s : State) : Result := leavesBlock s.toBlock s

/-- `RD.INTR_STS`: returns the raw status; reading does not clear (44_interrupt_regs.md R242). -/
def execRdIntrSts (s : State) : Result := readsAs s.sts s

/-- `WR.INTR_MASK`: masks the causes written 1 (44_interrupt_regs.md R243). -/
def execWrIntrMask (d : Word) (s : State) : Result := 
  leavesBlock { s.toBlock with mask := s.mask ||| (d &&& causeBits) } s

/-- `RD.INTR_MASK`: returns `MASK` (44_interrupt_regs.md R244). -/
def execRdIntrMask (s : State) : Result := readsAs s.mask s

/-- `WR.INTR_UNMASK`: unmasks the causes written 1 (44_interrupt_regs.md R245). -/
def execWrIntrUnmask (d : Word) (s : State) : Result := 
  leavesBlock { s.toBlock with mask := s.mask &&& ~~~(d &&& causeBits) } s

/-- `RD.INTR_UNMASK`: returns the set of unmasked causes (44_interrupt_regs.md R246). -/
def execRdIntrUnmask (s : State) : Result := readsAs (~~~s.mask &&& causeBits) s

/-- `WR.INTR_ACK`: clears the status bits written 1 (44_interrupt_regs.md R247). -/
def execWrIntrAck (d : Word) (s : State) : Result := 
  leavesBlock { s.toBlock with sts := s.sts &&& ~~~(d &&& causeBits) } s

/-- `RD.INTR_ACK`: returns 0, in every state (44_interrupt_regs.md R248). -/
def execRdIntrAck (s : State) : Result := readsAs 0 s

/-- `WR.ARB_CAUSE`: a read-only register; accepted without error and ignored, whatever is written
(44_interrupt_regs.md R249, 20_memory.md R87). -/
def execWrArbCause (_d : Word) (s : State) : Result := leavesBlock s.toBlock s

/-- `RD.ARB_CAUSE`: returns the arbiter's current winner, which is not cleared (44_interrupt_regs.md R250). -/
def execRdArbCause (s : State) : Result := readsAs ((arbCause s.sts).setWidth 32) s

end Sys2Proof.Machine
end

