-- ==== Sys2Proof/Machine/OcuRegs.lean ====
section
/-! DEFINITION. The OCU, WFG and ADC-select register operations (43_ocu_wfg_regs.md). -/

namespace Sys2Proof.Machine

/-- `WR.OCU_CTRL`: replaces the implemented bits (43_ocu_wfg_regs.md R211). -/
def execWrOcuCtrl (d : Word) (s : State) : Result := 
  leavesBlock { s.toBlock with ocuCtrl := d &&& ocuMask } s

/-- `RD.OCU_CTRL`: returns the stored word (43_ocu_wfg_regs.md R212). -/
def execRdOcuCtrl (s : State) : Result := readsAs s.ocuCtrl s

/-- `WR.OCU_COMPARE`: replaces the active thresholds, both halves (43_ocu_wfg_regs.md R214). -/
def execWrOcuCompare (d : Word) (s : State) : Result := 
  leavesBlock { s.toBlock with ocuCompare := d } s

/-- `RD.OCU_COMPARE`: returns the active thresholds (43_ocu_wfg_regs.md R215). -/
def execRdOcuCompare (s : State) : Result := readsAs s.ocuCompare s

/-- `WR.OCU_COMPARE_NXT`: stores the buffered thresholds, then for each active channel writes
through (`BUF_EN_c = 0`) or leaves the value pending, raising `FIFO_FULL_c` where one was pending in DMA mode (43_ocu_wfg_regs.md R218). -/
def execWrOcuCompareNxt (d : Word) (s : State) : Result := 
  leavesBlock ((activeChannels s.mode32).foldl (Block.bufferCompare d) { s.toBlock with ocuCompareNxt := d }) s

/-- `RD.OCU_COMPARE_NXT`: returns the last word written (43_ocu_wfg_regs.md R217). -/
def execRdOcuCompareNxt (s : State) : Result := readsAs s.ocuCompareNxt s

/-- `WR.WFG_CTRL`: replaces the implemented bits (43_ocu_wfg_regs.md R220). -/
def execWrWfgCtrl (d : Word) (s : State) : Result := 
  leavesBlock { s.toBlock with wfgCtrl := d &&& wfgMask } s

/-- `RD.WFG_CTRL`: returns the stored word (43_ocu_wfg_regs.md R221). -/
def execRdWfgCtrl (s : State) : Result := readsAs s.wfgCtrl s

/-- `WR.ADC_SEL`: stores the two sub-fields; nothing in the block reads them (R224) (43_ocu_wfg_regs.md R222). -/
def execWrAdcSel (d : Word) (s : State) : Result := 
  leavesBlock { s.toBlock with adcSel := d &&& adcMask } s

/-- `RD.ADC_SEL`: returns the stored word (43_ocu_wfg_regs.md R223). -/
def execRdAdcSel (s : State) : Result := readsAs s.adcSel s

end Sys2Proof.Machine
end

