-- ==== Sys2Proof/Machine/System.lean ====
section
/-! DEFINITION. The system operations `SVC` and `RST` (48_system_ops.md). -/

namespace Sys2Proof.Machine

/-- `SVC`: returns the code of the arbiter's winner and clears the winner's status bit, in one step; with no
cause pending it returns 0 and changes nothing (48_system_ops.md R341). -/
def execSvc (s : State) : Result :=
  .next ((s.withBlock { s.toBlock with sts := clearWinner s.sts }).answer (.cause (arbCause s.sts)))

/-- `RST`: every state element takes its reset value (48_system_ops.md R342). What the agents have issued
after it stays issued (log 15). -/
def execRst (s : State) : Result := leavesBlock Block.reset s

end Sys2Proof.Machine
end

