-- ==== Sys2Proof/Machine/TickEvents.lean ====
section
/-! DEFINITION. `TICK`, part 1: sampling, event codes, combiners, firing and the refusal (45_tick_events.md). -/

namespace Sys2Proof.Machine

/-- What a tick sees of the input lines (45_tick_events.md R262, R263). -/
structure Sample where
  /-- `in`: the levels sampled at this tick. -/
  inp : BitVec 4
  /-- `rise`: lines with a rising edge at this tick. -/
  rise : BitVec 4
  /-- `fall`: lines with a falling edge at this tick. -/
  fall : BitVec 4
  /-- `RISE_REG`: lines with a rising edge at the previous tick. -/
  registered : BitVec 4
deriving DecidableEq, Repr

/-- The sample of a tick with input levels `inp` (45_tick_events.md R262). -/
def Block.sample (b : Block) (inp : BitVec 4) : Sample where
  inp := inp
  rise := inp &&& ~~~b.prevIn
  fall := ~~~inp &&& b.prevIn
  registered := b.riseReg

/-- What an event code names (45_tick_events.md R264): an edge or a level of one line, a combiner, or an edge
of this or of the previous tick together with a combiner. -/
inductive Event where
  | never
  | rising (line : Fin 4)
  | falling (line : Fin 4)
  | eitherEdge (line : Fin 4)
  | low (line : Fin 4)
  | high (line : Fin 4)
  | andEvent
  | orEvent
  | risingAnd (line : Fin 4)
  | risingOr (line : Fin 4)
  | registeredAnd (line : Fin 4)
  | registeredOr (line : Fin 4)
deriving DecidableEq, Repr

/-- The event of a code: the table of 45_tick_events.md R264; none for the reserved codes 39 to 63. -/
def Event.ofCode (code : BitVec 6) : Option Event :=
  let n := code.toNat
  if n = 0 then some .never
  else if n ≤ 4 then some (.rising (Fin.ofNat 4 (n - 1)))
  else if n ≤ 8 then some (.falling (Fin.ofNat 4 (n - 5)))
  else if n ≤ 12 then some (.eitherEdge (Fin.ofNat 4 (n - 9)))
  else if n ≤ 16 then some (.low (Fin.ofNat 4 (n - 13)))
  else if n ≤ 20 then some (.high (Fin.ofNat 4 (n - 17)))
  else if n = 21 then some .andEvent
  else if n = 22 then some .orEvent
  else if n ≤ 30 then
    if (n - 23) % 2 = 0 then some (.risingAnd (Fin.ofNat 4 ((n - 23) / 2)))
    else some (.risingOr (Fin.ofNat 4 ((n - 24) / 2)))
  else if n < Config.eventLast then
    if (n - 31) % 2 = 0 then some (.registeredAnd (Fin.ofNat 4 ((n - 31) / 2)))
    else some (.registeredOr (Fin.ofNat 4 ((n - 32) / 2)))
  else none

/-- Whether an event occurs on a tick, given the combiner outputs of its action (45_tick_events.md R264, R265). -/
def Event.occurs (x : Sample) (andOut orOut : Bool) : Event → Bool
  | .never => false
  | .rising i => x.rise.getLsbD i
  | .falling i => x.fall.getLsbD i
  | .eitherEdge i => x.rise.getLsbD i || x.fall.getLsbD i
  | .low i => !x.inp.getLsbD i
  | .high i => x.inp.getLsbD i
  | .andEvent => andOut
  | .orEvent => orOut
  | .risingAnd i => x.rise.getLsbD i && andOut
  | .risingOr i => x.rise.getLsbD i && orOut
  | .registeredAnd i => x.registered.getLsbD i && andOut
  | .registeredOr i => x.registered.getLsbD i && orOut

/-- The lines whose sampled level is the required one. -/
def agreeing (inp levels : BitVec 4) : BitVec 4 := ~~~(inp ^^^ levels)

/-- The AND combiner of one channel's field group: some line is valid, and every valid line has its required
level; an empty AND is 0 (45_tick_events.md R266). -/
def andCombiner (w : Word) (c : Channel) (inp : BitVec 4) : Bool :=
  validField w c != 0 && validField w c &&& ~~~(agreeing inp (levelField w c)) == 0

/-- The OR combiner of one channel's field group: some valid line has its required level
(45_tick_events.md R267). -/
def orCombiner (w : Word) (c : Channel) (inp : BitVec 4) : Bool :=
  validField w c &&& agreeing inp (levelField w c) != 0

/-- `ev(code)` of an action and a channel (45_tick_events.md R264). A reserved code names no event; no tick
that is performed meets one (R261; log 12). -/
def selectedEvent (b : Block) (x : Sample) (a : Action) (c : Channel) (andOut orOut : Bool) : Bool :=
  match Event.ofCode (eventField (b.evtSel.get a) c) with
  | none => false
  | some e => e.occurs x andOut orOut

/-- `fire[a][c]`: the selected event, the AND combiner or the OR combiner (45_tick_events.md R268). -/
def fires (b : Block) (x : Sample) (a : Action) (c : Channel) : Bool :=
  let andOut := andCombiner (b.evtAnd.get a) c x.inp
  let orOut := orCombiner (b.evtOr.get a) c x.inp
  selectedEvent b x a c andOut orOut || andOut || orOut

/-- Whether some `SYNC_EN_c` is set (45_tick_events.md R261 a). -/
def Block.anySyncEn (b : Block) : Bool := b.syncEn .c0 || b.syncEn .c1

/-- Whether one of the sixteen `EV_c` fields holds a code from 39 to 63, in either mode and whether or not the
field's counter is active (45_tick_events.md R261 b, 42_event_regs.md R480). -/
def Block.anyReservedCode (b : Block) : Bool :=
  Action.all.any fun a => Channel.all.any fun c =>
    (Event.ofCode (eventField (b.evtSel.get a) c)).isNone

/-- Why a `TICK` is refused, if it is: "in exactly two situations" (45_tick_events.md R261; log 6 for the
reason named when both hold). -/
def Block.tickRefusal (b : Block) : Option Refusal :=
  if b.anySyncEn then some .channelSync
  else if b.anyReservedCode then some .reservedEventCode
  else none

end Sys2Proof.Machine
end

