-- ==== Sys2Proof/Machine/TickCounting.lean ====
section
/-! DEFINITION. `TICK`, part 2: the count, the run state and the period boundary (46_tick_counting.md). Every
function reads the state before the tick (00_scope.md R11). -/

namespace Sys2Proof.Machine

/-- What a step of the count yields (46_tick_counting.md R290). -/
structure CountStep where
  /-- `ncnt`: the count after the tick. -/
  count : Word
  /-- `nphase`: the phase after the step, before a start or a stop. -/
  phase : Bool
  /-- `boundary`: the tick ends a period. -/
  boundary : Bool
deriving DecidableEq, Repr

/-- UP, on a counting tick; a count at `MAX` that is not the match value stays (46_tick_counting.md R294, R295). -/
def stepUp (top mat cnt : Word) : CountStep :=
  if cnt = mat then ⟨0, false, true⟩
  else if cnt = top then ⟨cnt, false, false⟩
  else ⟨cnt + 1, false, false⟩

/-- DOWN, on a counting tick (46_tick_counting.md R296). -/
def stepDown (mat cnt : Word) : CountStep :=
  if cnt = 0 then ⟨mat, false, true⟩ else ⟨cnt - 1, false, false⟩

/-- UP_DOWN while ascending, on a counting tick (46_tick_counting.md R297). -/
def stepAscending (top mat cnt : Word) : CountStep :=
  if cnt = mat then ⟨if cnt = 0 then 0 else cnt - 1, true, false⟩
  else if cnt = top then ⟨cnt, false, false⟩
  else ⟨cnt + 1, false, false⟩

/-- UP_DOWN while descending, on a counting tick (46_tick_counting.md R298). -/
def stepDescending (periodic : Bool) (mat cnt : Word) : CountStep :=
  if cnt = 0 then ⟨if periodic && mat != 0 then 1 else 0, false, true⟩
  else ⟨cnt - 1, true, false⟩

/-- The step of a counting tick, by direction (46_tick_counting.md R294 to R298). -/
def stepCount (dir : Direction) (periodic phase : Bool) (top mat cnt : Word) : CountStep :=
  match dir with
  | .up => stepUp top mat cnt
  | .down => stepDown mat cnt
  | .upDown => if phase then stepDescending periodic mat cnt else stepAscending top mat cnt

/-- `cnt`: the count of a channel (46_tick_counting.md R290). -/
def Block.count (b : Block) (c : Channel) : Word := slice b.mode32 b.counter c

/-- `mat`: the match value of a channel (46_tick_counting.md R290). -/
def Block.matchValue (b : Block) (c : Channel) : Word := slice b.mode32 b.matchReg c

/-- `inc_cfg_c`: the increment action of a channel is configured (46_tick_counting.md R292). -/
def Block.incConfigured (b : Block) (c : Channel) : Bool :=
  eventField b.evtSel.increment c != 0 || validField b.evtAnd.increment c != 0 ||
    validField b.evtOr.increment c != 0

/-- `enable_c` (46_tick_counting.md R292). -/
def Block.countEnabled (b : Block) (x : Sample) (c : Channel) : Bool :=
  if b.incConfigured c then fires b x .increment c else true

/-- `counting`: the channel is running, not halted and count-enabled (46_tick_counting.md R291). -/
def Block.counting (b : Block) (x : Sample) (c : Channel) : Bool :=
  (b.chan c).run && !(b.chan c).halt && b.countEnabled x c

/-- `ncnt`, `nphase` and `boundary` of a channel (46_tick_counting.md R290, R294 to R298). -/
def Block.countStep (b : Block) (x : Sample) (c : Channel) : CountStep :=
  if b.counting x c then
    stepCount (b.direction c) (b.periodic c) (b.chan c).phase (maxCount b.mode32) (b.matchValue c) (b.count c)
  else ⟨b.count c, (b.chan c).phase, false⟩

/-- `zero`: the count is observed at 0 on a counting tick (46_tick_counting.md R293). -/
def Block.zeroSeen (b : Block) (x : Sample) (c : Channel) : Bool := b.counting x c && b.count c == 0

/-- `peak`: the count is observed at the match value on a counting tick (46_tick_counting.md R293). -/
def Block.peakSeen (b : Block) (x : Sample) (c : Channel) : Bool :=
  b.counting x c && b.count c == b.matchValue c

/-- `end_oneshot` (46_tick_counting.md R301). -/
def Block.endsOneShot (b : Block) (x : Sample) (c : Channel) : Bool :=
  (b.countStep x c).boundary && !b.periodic c

/-- `start`: the start action, or in 16-bit mode the other counter's start action with `SYNC_TRIG_c` set
(46_tick_counting.md R302, R306, R307). -/
def Block.starts (b : Block) (x : Sample) (c : Channel) : Bool :=
  fires b x .start c || (!b.mode32 && b.syncTrig c && fires b x .start c.other)

/-- `stop` (46_tick_counting.md R303). -/
def Block.stops (b : Block) (x : Sample) (c : Channel) : Bool := fires b x .stop c

/-- `RUN_c'`: stop over start over one-shot end (46_tick_counting.md R306). -/
def Block.nextRun (b : Block) (x : Sample) (c : Channel) : Bool :=
  if b.stops x c then false
  else if b.starts x c then true
  else if b.endsOneShot x c then false
  else (b.chan c).run

/-- `HALT_c'`: start over halt, halt over continue (46_tick_counting.md R305, R306). -/
def Block.nextHalt (b : Block) (x : Sample) (c : Channel) : Bool :=
  if !b.nextRun x c || b.starts x c then false
  else if fires b x .halt c then true
  else if fires b x .cont c then false
  else (b.chan c).halt

/-- `PHASE_c'` (46_tick_counting.md R306). -/
def Block.nextPhase (b : Block) (x : Sample) (c : Channel) : Bool :=
  if b.starts x c || b.stops x c then false else (b.countStep x c).phase

end Sys2Proof.Machine
end

