-- ==== Sys2Proof/Machine/TickOutput.lean ====
section
/-! DEFINITION. `TICK`, part 3: the output compare, the waveform generator and the commit of the compare buffer
(47_tick_output.md). -/

namespace Sys2Proof.Machine

/-- `cmpeq`: equality of count and active threshold on a counting tick, of their low eight bits in 8-bit mode
(47_tick_output.md R321, R322). -/
def Block.compareMatch (b : Block) (x : Sample) (c : Channel) : Bool :=
  b.counting x c &&
    if b.mode8 c then
      (b.count c).extractLsb' 0 8 == (slice b.mode32 b.ocuCompare c).extractLsb' 0 8
    else b.count c == slice b.mode32 b.ocuCompare c

/-- The compare action of the waveform generator (47_tick_output.md R323). -/
def compareAction (t : ToggleSelect) (o : Bool) : Bool :=
  match t with
  | .nothing => o
  | .high => true
  | .low => false
  | .toggle => !o

/-- The boundary action of the two select flags (47_tick_output.md R324). -/
def boundaryAction (high low o : Bool) : Bool :=
  match high, low with
  | false, false => o
  | true, false => true
  | false, true => false
  | true, true => !o

/-- `OUT_c` after the tick: with `OCU_OUT_EN_c` the compare action first and the boundary action second, else a
toggle by the output action (47_tick_output.md R323 to R326). -/
def Block.nextOut (b : Block) (x : Sample) (c : Channel) : Bool :=
  if b.ocuOutEn c then
    let o := if b.compareMatch x c then compareAction (b.toggleSelect c) (b.chan c).out else (b.chan c).out
    if (b.countStep x c).boundary then boundaryAction (b.outHighSel c) (b.outLowSel c) o else o
  else (b.chan c).out != fires b x .output c

/-- Whether the tick commits the pending compare value (47_tick_output.md R328). -/
def Block.commits (b : Block) (x : Sample) (c : Channel) : Bool :=
  (b.countStep x c).boundary && b.bufEn c && (b.chan c).nxtValid

end Sys2Proof.Machine
end

