-- ==== Sys2Proof/Machine/Tick.lean ====
section
/-! DEFINITION. `TICK`: one clock tick with the four input lines sampled (45_tick_events.md R260). -/

namespace Sys2Proof.Machine

/-- What a tick computes for one active channel, all of it from the state before the tick (00_scope.md R11,
45_tick_events.md R260). -/
structure ChannelTick where
  /-- `ncnt` (46_tick_counting.md R290). -/
  count : Word
  /-- The new `RUN_c`, `HALT_c`, `PHASE_c` and `OUT_c`; `NXT_VALID_c` is cleared by a commit. -/
  chan : ChanState
  /-- The count the capture action stores, if it fires (46_tick_counting.md R308). -/
  captured : Option Word
  /-- `PEAK_c` is raised (46_tick_counting.md R309). -/
  peak : Bool
  /-- `ZERO_c` is raised (46_tick_counting.md R310). -/
  zero : Bool
  /-- `EVENT_c` is raised (46_tick_counting.md R311). -/
  event : Bool
  /-- The pending compare value is committed (47_tick_output.md R328). -/
  commit : Bool
deriving DecidableEq, Repr

/-- The computation of a tick for one channel (45_tick_events.md R260). -/
def Block.channelTick (b : Block) (x : Sample) (c : Channel) : ChannelTick where
  count := (b.countStep x c).count
  chan :=
    { run := b.nextRun x c
      halt := b.nextHalt x c
      phase := b.nextPhase x c
      nxtValid := (b.chan c).nxtValid && !b.commits x c
      out := b.nextOut x c }
  captured := if fires b x .capture c then some (b.count c) else none
  peak := b.peakSeen x c
  zero := b.zeroSeen x c
  event := fires b x .interrupt c
  commit := b.commits x c

/-- The writes of a tick for one channel: its slices, its one-bit elements and its status bits, and nothing of
the other channel. -/
def Block.writeChannel (b : Block) (c : Channel) (r : ChannelTick) : Block :=
  { b.setChan c r.chan with
    counter := putSlice b.mode32 b.counter c r.count
    captureReg :=
      match r.captured with
      | none => b.captureReg
      | some v => putSlice b.mode32 b.captureReg c v
    sts := raiseCause r.event .event c (raiseCause r.zero .zero c (raiseCause r.peak .peak c b.sts))
    ocuCompare :=
      if r.commit then putSlice b.mode32 b.ocuCompare c (slice b.mode32 b.ocuCompareNxt c) else b.ocuCompare }

/-- A tick that is not refused: every active channel from the state before the tick, then the input history
(45_tick_events.md R260, R263). -/
def Block.tick (b : Block) (inp : BitVec 4) : Block :=
  let x := b.sample inp
  let b' := (activeChannels b.mode32).foldl (fun acc c => acc.writeChannel c (b.channelTick x c)) b
  { b' with prevIn := inp, riseReg := x.rise }

/-- `TICK` (45_tick_events.md R260): refused in the two situations of R261, with no state change; otherwise
the tick is performed and returns nothing. -/
def execTick (inp : BitVec 4) (s : State) : Result :=
  match s.tickRefusal with
  | some why => .refused why
  | none => leavesBlock (s.tick inp) s

end Sys2Proof.Machine
end

