-- ==== Sys2Proof/Machine/Dispatch.lean ====
section
/-! DEFINITION. The dispatch: one arm per constructor of `Instr`, one direct call of its meaning. -/

namespace Sys2Proof.Machine

def exec (i : Instr) (s : State) : Host.Outcome State Fault Refusal :=
  match i with
  | .rdGenCtrlSet => Sys2Proof.Machine.execRdGenCtrlSet s
  | .wrGenCtrlSet d => Sys2Proof.Machine.execWrGenCtrlSet d s
  | .rdGenCtrlReset => Sys2Proof.Machine.execRdGenCtrlReset s
  | .wrGenCtrlReset d => Sys2Proof.Machine.execWrGenCtrlReset d s
  | .rdIntrSts => Sys2Proof.Machine.execRdIntrSts s
  | .wrIntrSts d => Sys2Proof.Machine.execWrIntrSts d s
  | .rdIntrMask => Sys2Proof.Machine.execRdIntrMask s
  | .wrIntrMask d => Sys2Proof.Machine.execWrIntrMask d s
  | .rdIntrUnmask => Sys2Proof.Machine.execRdIntrUnmask s
  | .wrIntrUnmask d => Sys2Proof.Machine.execWrIntrUnmask d s
  | .rdIntrAck => Sys2Proof.Machine.execRdIntrAck s
  | .wrIntrAck d => Sys2Proof.Machine.execWrIntrAck d s
  | .rdMatchReg => Sys2Proof.Machine.execRdMatchReg s
  | .wrMatchReg d => Sys2Proof.Machine.execWrMatchReg d s
  | .rdCaptureReg => Sys2Proof.Machine.execRdCaptureReg s
  | .wrCaptureReg d => Sys2Proof.Machine.execWrCaptureReg d s
  | .rdCounter => Sys2Proof.Machine.execRdCounter s
  | .wrCounter d => Sys2Proof.Machine.execWrCounter d s
  | .rdOcuCtrl => Sys2Proof.Machine.execRdOcuCtrl s
  | .wrOcuCtrl d => Sys2Proof.Machine.execWrOcuCtrl d s
  | .rdOcuCompare => Sys2Proof.Machine.execRdOcuCompare s
  | .wrOcuCompare d => Sys2Proof.Machine.execWrOcuCompare d s
  | .rdOcuCompareNxt => Sys2Proof.Machine.execRdOcuCompareNxt s
  | .wrOcuCompareNxt d => Sys2Proof.Machine.execWrOcuCompareNxt d s
  | .rdWfgCtrl => Sys2Proof.Machine.execRdWfgCtrl s
  | .wrWfgCtrl d => Sys2Proof.Machine.execWrWfgCtrl d s
  | .rdAdcSel => Sys2Proof.Machine.execRdAdcSel s
  | .wrAdcSel d => Sys2Proof.Machine.execWrAdcSel d s
  | .rdArbCause => Sys2Proof.Machine.execRdArbCause s
  | .wrArbCause d => Sys2Proof.Machine.execWrArbCause d s
  | .rdStartSel => Sys2Proof.Machine.execRdStartSel s
  | .wrStartSel d => Sys2Proof.Machine.execWrStartSel d s
  | .rdStartAnd => Sys2Proof.Machine.execRdStartAnd s
  | .wrStartAnd d => Sys2Proof.Machine.execWrStartAnd d s
  | .rdStartOr => Sys2Proof.Machine.execRdStartOr s
  | .wrStartOr d => Sys2Proof.Machine.execWrStartOr d s
  | .rdStopSel => Sys2Proof.Machine.execRdStopSel s
  | .wrStopSel d => Sys2Proof.Machine.execWrStopSel d s
  | .rdStopAnd => Sys2Proof.Machine.execRdStopAnd s
  | .wrStopAnd d => Sys2Proof.Machine.execWrStopAnd d s
  | .rdStopOr => Sys2Proof.Machine.execRdStopOr s
  | .wrStopOr d => Sys2Proof.Machine.execWrStopOr d s
  | .rdContSel => Sys2Proof.Machine.execRdContSel s
  | .wrContSel d => Sys2Proof.Machine.execWrContSel d s
  | .rdContAnd => Sys2Proof.Machine.execRdContAnd s
  | .wrContAnd d => Sys2Proof.Machine.execWrContAnd d s
  | .rdContOr => Sys2Proof.Machine.execRdContOr s
  | .wrContOr d => Sys2Proof.Machine.execWrContOr d s
  | .rdHaltSel => Sys2Proof.Machine.execRdHaltSel s
  | .wrHaltSel d => Sys2Proof.Machine.execWrHaltSel d s
  | .rdHaltAnd => Sys2Proof.Machine.execRdHaltAnd s
  | .wrHaltAnd d => Sys2Proof.Machine.execWrHaltAnd d s
  | .rdHaltOr => Sys2Proof.Machine.execRdHaltOr s
  | .wrHaltOr d => Sys2Proof.Machine.execWrHaltOr d s
  | .rdIncrementSel => Sys2Proof.Machine.execRdIncrementSel s
  | .wrIncrementSel d => Sys2Proof.Machine.execWrIncrementSel d s
  | .rdIncrementAnd => Sys2Proof.Machine.execRdIncrementAnd s
  | .wrIncrementAnd d => Sys2Proof.Machine.execWrIncrementAnd d s
  | .rdIncrementOr => Sys2Proof.Machine.execRdIncrementOr s
  | .wrIncrementOr d => Sys2Proof.Machine.execWrIncrementOr d s
  | .rdCaptureSel => Sys2Proof.Machine.execRdCaptureSel s
  | .wrCaptureSel d => Sys2Proof.Machine.execWrCaptureSel d s
  | .rdCaptureAnd => Sys2Proof.Machine.execRdCaptureAnd s
  | .wrCaptureAnd d => Sys2Proof.Machine.execWrCaptureAnd d s
  | .rdCaptureOr => Sys2Proof.Machine.execRdCaptureOr s
  | .wrCaptureOr d => Sys2Proof.Machine.execWrCaptureOr d s
  | .rdInterruptSel => Sys2Proof.Machine.execRdInterruptSel s
  | .wrInterruptSel d => Sys2Proof.Machine.execWrInterruptSel d s
  | .rdInterruptAnd => Sys2Proof.Machine.execRdInterruptAnd s
  | .wrInterruptAnd d => Sys2Proof.Machine.execWrInterruptAnd d s
  | .rdInterruptOr => Sys2Proof.Machine.execRdInterruptOr s
  | .wrInterruptOr d => Sys2Proof.Machine.execWrInterruptOr d s
  | .rdOutputSel => Sys2Proof.Machine.execRdOutputSel s
  | .wrOutputSel d => Sys2Proof.Machine.execWrOutputSel d s
  | .rdOutputAnd => Sys2Proof.Machine.execRdOutputAnd s
  | .wrOutputAnd d => Sys2Proof.Machine.execWrOutputAnd d s
  | .rdOutputOr => Sys2Proof.Machine.execRdOutputOr s
  | .wrOutputOr d => Sys2Proof.Machine.execWrOutputOr d s
  | .tick inp => Sys2Proof.Machine.execTick inp s
  | .svc => Sys2Proof.Machine.execSvc s
  | .rst => Sys2Proof.Machine.execRst s

end Sys2Proof.Machine
end

