-- ==== Sys2Proof/Machine/Clock.lean ====
section
/-! DEFINITION. The platform's peripheral clock, and how a decoded word reaches the block through it
(60_exceptions.md R371, 30_encoding.md R143; log 9, log 24). -/

namespace Sys2Proof.Machine

/-- The platform enables or disables the peripheral clock: "all state is retained" (60_exceptions.md R371). -/
def setClock (on : Bool) (s : State) : State := { s with clockOn := on }

/-- Whether an `RD` or `WR` succeeds: always while the clock is on, and while it is off as `BUS_WHEN_GATED` says
(60_exceptions.md R371). -/
def accessSucceeds (p : Params) (s : State) : Bool := s.clockOn || p.busWhenGated

/-- A register access, performed where it succeeds; the spec does not say what an access that does not succeed
does (60_exceptions.md R371; log 9). -/
def viaBus (p : Params) (access : State → Result) (s : State) : Result :=
  if accessSucceeds p s then access s else .refused .gatedAccess

/-- An instruction on its way to the block. A `TICK` is an edge of the peripheral clock: "while the peripheral clock
is disabled the environment supplies no `TICK`, all state is retained" (60_exceptions.md R371; log 24). -/
def deliverInstr (p : Params) (i : Instr) (s : State) : Result :=
  match i.toOp with
  | .rd _ => viaBus p (exec i) s
  | .wr _ _ => viaBus p (exec i) s
  | .tick _ => if s.clockOn then exec i s else .next s
  | .svc => exec i s
  | .rst => exec i s

/-- What a decoded word does. A legal access to no register raises `BusError` (30_encoding.md R119); an illegal
word is refused at the decoder (R118; log 5). -/
def deliver (p : Params) (d : Decoded) (s : State) : Result :=
  match d with
  | .instr i => deliverInstr p i s
  | .noRegister kind dir off => viaBus p (raiseBusError kind dir off) s
  | .illegal why => .refused (.illegalWord why)

end Sys2Proof.Machine
end

