-- ==== Sys2Proof/Machine/Fetch.lean ====
section
/-! DEFINITION. Taking the next issued operation: the block fetches no instructions (10_state.md R22); the
operations its agents apply reach it in one total order (00_scope.md R10, 20_memory.md R95; log 2). -/

namespace Sys2Proof.Machine

/-- The oldest issued operation and the state without it; none where the agents have issued nothing. -/
def takeIssued (s : State) : Option (CommandWord × State) :=
  match s.issued with
  | [] => none
  | w :: rest => some (w, { s with issued := rest })

/-- The state with an operation issued before all the others: the one the block takes next. -/
def issueFirst (s : State) (w : CommandWord) : State := { s with issued := w :: s.issued }

/-- The state with an operation issued after all the others. -/
def issueLast (s : State) (w : CommandWord) : State := { s with issued := s.issued ++ [w] }

/-- The command word of a number of `nbits` bits, the bits above them zero (30_encoding.md R111; log 19). -/
def tableWord (nbits w : Nat) : CommandWord := BitVec.ofNat 48 (w % 2 ^ nbits)

end Sys2Proof.Machine
end

