-- ==== Sys2Proof/Machine/Step.lean ====
section
/-! DEFINITION. The step: the block takes the next operation in the total order of 20_memory.md R95 and
performs it as one indivisible step (00_scope.md R10). -/

namespace Sys2Proof.Machine

/-- One step over the parameters a model takes as arguments, `REGMAP` and `BUS_WHEN_GATED` (00_scope.md R6,
10_state.md R56). Where the agents have issued nothing, nothing happens: "nothing else changes between operations"
(10_state.md R20; log 3). -/
def stepWith (p : Params) (s : State) : Result :=
  match takeIssued s with
  | none => .next s
  | some (w, s') => deliver p (decodeWith p.regMap w) s'

/-- One step at the defaults the spec gives the parameters (00_scope.md R6; log 7, log 9). -/
def step (s : State) : Host.Outcome State Fault Refusal := stepWith .default s

/-- The state in which the given instruction is the next operation issued, with the peripheral clock on, without
which a `TICK` is not supplied (log 2, log 19, log 24). -/
def State.withFetchWord (s : State) (nbits w : Nat) : State := issueFirst (setClock true s) (tableWord nbits w)

end Sys2Proof.Machine
end

