-- ==== Sys2Proof/Machine/Driver.lean ====
section
/-! DEFINITION. The pseudo-operations: the document's driver calls as sequences of register operations
(30_encoding.md R123 to R143), and the host's view of the block at a bus address (00_scope.md R9). The checks
and status codes are software; what reaches the block is the operations a call issues (log 14). -/

namespace Sys2Proof.Machine

/-! ### Bus addresses -/

/-- The byte offset of a bus address that lies in the block's register space of 0x0A0 bytes
(00_scope.md R9, 20_memory.md R80). DESIGN CHOICE: the spec gives no width for a bus address and does not say whether
`addr - BASE_ADDR` wraps; the model takes 32 bits and subtracts modulo 2^32 (log 22). DESIGN CHOICE: the bound 0x0A0 of
R80 holds for every register map, though the model admits maps that place a register above it (log 25). -/
def blockOffset (addr : BitVec 32) : Option Offset :=
  let off := addr - Config.baseAddr
  if off.toNat < 0x0A0 then some (off.setWidth 12) else none

/-- `MemRead(addr, 4)` where the address lies in the block (00_scope.md R9). -/
def memRead (addr : BitVec 32) : Option CommandWord := (blockOffset addr).map fun off => .make 0 off 0

/-- `MemWrite(addr, 4, v)` where the address lies in the block (00_scope.md R9). -/
def memWrite (addr : BitVec 32) (v : Word) : Option CommandWord :=
  (blockOffset addr).map fun off => .make 1 off v

/-! ### Programs of register operations -/

/-- A call of the driver: what it issues next, given what its reads returned. -/
inductive Prog (α : Type) where
  | ret (a : α)
  | rd (r : Reg) (k : Word → Prog α)
  | wr (r : Reg) (d : Word) (k : Prog α)
  | svc (k : BitVec 4 → Prog α)

/-- The operation a call issues next, if it has not returned. Between two operations of a call, operations of
other agents may fall (30_encoding.md R125, 20_memory.md R84). -/
def Prog.nextOp {α : Type} : Prog α → Option Instr
  | .ret _ => none
  | .rd r _ => some (rdInstr r)
  | .wr r d _ => some (wrInstr d r)
  | .svc _ => some .svc

/-- The rest of a call after its operation was answered; none where the answer is not of the kind the
operation gives. -/
def Prog.resume {α : Type} : Prog α → Response → Option (Prog α)
  | .rd _ k, .data v => some (k v)
  | .wr _ _ k, .ok => some k
  | .svc k, .cause code => some (k code)
  | _, _ => none

/-- A call run with no operation of another agent in between, each operation as the block alone performs it, `SVC` in every
state (48_system_ops.md R341 c); `systemStep` applies the rule of 00_scope.md R12 for who may issue what. -/
def Prog.run {α : Type} : Prog α → State → Option (α × State)
  | .ret a, s => some (a, s)
  | .rd r k, s =>
    match exec (rdInstr r) s with
    | .next s' =>
      match s'.resp with
      | .data v => (k v).run s'
      | _ => none
    | _ => none
  | .wr r d k, s =>
    match exec (wrInstr d r) s with
    | .next s' => k.run s'
    | _ => none
  | .svc k, s =>
    match exec .svc s with
    | .next s' =>
      match s'.resp with
      | .cause code => (k code).run s'
      | _ => none
    | _ => none

/-! ### Word assembly -/

/-- A bit of a word, at a counter-0 position and a channel, if the flag is set. -/
def flagWord (cond : Bool) (p : Nat) (c : Channel) : Word := if cond then BitVec.twoPow 32 (p + c.shift) else 0

/-- The direction patterns UP `0b01`, DOWN `0b10`, UP_DOWN `0b11` (30_encoding.md R123). -/
def Direction.bits : Direction → BitVec 2
  | .up => 0b01#2
  | .down => 0b10#2
  | .upDown => 0b11#2

/-- The per-counter booleans and the direction of a configuration (30_encoding.md R123). A direction outside
the three is `none`. -/
structure CounterConfig where
  softReset : Bool
  periodic : Bool
  trigger : Bool
  sync : Bool
  buffer : Bool
  direction : Option Direction
deriving DecidableEq, Repr

/-- `half(c) << 16c` (30_encoding.md R123). -/
def CounterConfig.half (x : CounterConfig) (dir : Direction) (c : Channel) : Word :=
  flagWord x.softReset softResetBit c ||| flagWord x.periodic periodicBit c |||
    flagWord x.trigger trigBit c ||| (dir.bits.setWidth 32 <<< (dirBit + c.shift)) |||
    flagWord x.sync syncTrigBit c ||| flagWord x.buffer bufEnBit c

/-- The select word `event0 | (event1 << 16)` (30_encoding.md R124). -/
def selectWord (event0 event1 : Nat) : Word := BitVec.ofNat 32 event0 ||| BitVec.ofNat 32 event1 <<< 16

/-- The AND-event or OR-event word (30_encoding.md R124). -/
def combinerWord (ev0 valid0 ev1 valid1 : Nat) : Word :=
  BitVec.ofNat 32 ev0 ||| BitVec.ofNat 32 valid0 <<< 8 ||| BitVec.ofNat 32 ev1 <<< 16 |||
    BitVec.ofNat 32 valid1 <<< 24

/-- The OR of the cause bits of the booleans set in a flags struct (30_encoding.md R139, 10_state.md R35). -/
def causeFlags (flags : List (Cause × Channel)) : Word :=
  flags.foldr (fun p w => causeWord p.1 p.2 ||| w) 0

/-! ### The calls -/

/-- The two counter modes (30_encoding.md R128). -/
inductive Mode where
  | bits16
  | bits32
deriving DecidableEq, Repr

/-- `set_configuration(config)`; a null pointer is `none` (30_encoding.md R126, R123). DESIGN CHOICE: six rows of S1 of
95_test_vectors.md have the call succeed with the other counter's direction bits 0, which no configuration of R123
gives and the check of R126 rejects; the model follows the two rules (log 29). -/
def setConfiguration (config : Option (Mode × CounterConfig × CounterConfig)) : Prog Status :=
  match config with
  | none => .ret .nullPointer
  | some (mode, k0, k1) =>
    match k0.direction, k1.direction with
    | some d0, some d1 =>
      .wr .genCtrlSet (flagWord (mode == .bits32) 0 .c0 ||| k0.half d0 .c0 ||| k1.half d1 .c1) (.ret .ok)
    | _, _ => .ret .invalidParameter

/-- `reset_configuration()`: `WR GEN_CTRL_RESET, 0x00FE00FF` (30_encoding.md R127). -/
def resetConfiguration : Prog Status := .wr .genCtrlReset 0x00FE00FF#32 (.ret .ok)

/-- `set_mode(mode)`; a mode at or above `LAST` is `none` (30_encoding.md R128). -/
def setMode (mode : Option Mode) : Prog Status :=
  match mode with
  | none => .ret .invalidMode
  | some .bits32 => .wr .genCtrlSet 1 (.ret .ok)
  | some .bits16 => .wr .genCtrlReset 1 (.ret .ok)

/-- `start_on_software_trigger(counter)`: in 16-bit mode the start is rejected where an up or up-down count is
above its match value (30_encoding.md R129). -/
def startOnSoftwareTrigger (c : Channel) : Prog Status :=
  let start : Prog Status := .wr .genCtrlSet (flagWord true trigBit c) (.ret .ok)
  .rd .genCtrlSet fun g =>
    if g.getLsbD 0 then start
    else
      .rd .counter fun n =>
        .rd .matchReg fun m =>
          if g.extractLsb' (dirBit + c.shift) 2 ≠ 0b10#2 ∧ slice false m c < slice false n c then
            .ret .invalidParameter
          else start

/-- `select_action_event(action, event0, event1)`: the codes are ORed in (30_encoding.md R130). -/
def selectActionEvent (action event0 event1 : Nat) : Prog Status :=
  match Action.ofCode action with
  | none => .ret .invalidParameter
  | some a =>
    if Config.eventLast ≤ event0 ∨ Config.eventLast ≤ event1 then .ret .invalidParameter
    else .rd (.evt a .sel) fun w => .wr (.evt a .sel) (w ||| selectWord event0 event1) (.ret .ok)

/-- The four event codes and four valid fields of an action-event handle (30_encoding.md R131). -/
structure ActionEvent where
  action : Nat
  and0 : Nat
  andValid0 : Nat
  and1 : Nat
  andValid1 : Nat
  or0 : Nat
  orValid0 : Nat
  or1 : Nat
  orValid1 : Nat
deriving DecidableEq, Repr

/-- `configure_action_event(handle)`: plain stores of the two words (30_encoding.md R131, R124). -/
def configureActionEvent (h : ActionEvent) : Prog Status :=
  match Action.ofCode h.action with
  | none => .ret .invalidParameter
  | some a =>
    if [h.and0, h.and1, h.or0, h.or1].any (Config.eventLast ≤ ·) ||
        [h.andValid0, h.andValid1, h.orValid0, h.orValid1].any (15 < ·) then .ret .invalidParameter
    else
      .wr (.evt a .and) (combinerWord h.and0 h.andValid0 h.and1 h.andValid1)
        (.wr (.evt a .or) (combinerWord h.or0 h.orValid0 h.or1 h.orValid1) (.ret .ok))

/-- The per-counter OCU flags (10_state.md R44). -/
structure OcuFlags where
  outEn : Bool
  syncEn : Bool
  dmaEn : Bool
  mode8 : Bool
  outHigh : Bool
  outLow : Bool
deriving DecidableEq, Repr

/-- The OCU_CTRL bits of one counter's flags (30_encoding.md R122, R132). -/
def OcuFlags.word (f : OcuFlags) (c : Channel) : Word :=
  flagWord f.outEn ocuOutEnBit c ||| flagWord f.syncEn syncEnBit c ||| flagWord f.dmaEn dmaEnBit c |||
    flagWord f.mode8 mode8Bit c ||| flagWord f.outHigh outHighSelBit c ||| flagWord f.outLow outLowSelBit c

/-- `set_ocu_configuration(ocu_config)`: flags already set stay set (30_encoding.md R132). -/
def setOcuConfiguration (config : Option (OcuFlags × OcuFlags)) : Prog Status :=
  match config with
  | none => .ret .nullPointer
  | some (f0, f1) => .rd .ocuCtrl fun o => .wr .ocuCtrl (o ||| f0.word .c0 ||| f1.word .c1) (.ret .ok)

/-- The parameters of `set_ocu_control` for one counter in 16-bit mode (30_encoding.md R133; log 23 for their
widths). -/
structure OcuParams where
  counter : Channel
  first : BitVec 16
  next : BitVec 16
  dma : Bool
deriving DecidableEq, Repr

/-- `set_ocu_control(ocu_params)`: the outer or the nested pointer null is `none` or `some none`
(30_encoding.md R133). -/
def setOcuControl (params : Option (Option OcuParams)) : Prog Status :=
  match params with
  | some (some p) =>
    .rd .ocuCompare fun w =>
      .wr .ocuCompare (putSlice false w p.counter (p.first.setWidth 32))
        (.rd .ocuCompareNxt fun n =>
          .wr .ocuCompareNxt (putSlice false n p.counter (p.next.setWidth 32))
            (if p.dma then
              .rd .ocuCtrl fun o => .wr .ocuCtrl (o ||| flagWord true dmaEnBit p.counter) (.ret .ok)
            else .ret .ok))
  | _ => .ret .nullPointer

/-- A WFG word with the toggle-select field of one counter replaced, where the configuration names it. -/
def replaceToggle (w : Word) (c : Channel) : Option (BitVec 2) → Word
  | none => w
  | some t => (w &&& ~~~(3#32 <<< c.shift)) ||| (t.setWidth 32 <<< c.shift)

/-- `set_wfg_configuration(wfg_config)`: the named fields are replaced (30_encoding.md R134; log 23). -/
def setWfgConfiguration (t0 t1 : Option (BitVec 2)) : Prog Status :=
  .rd .wfgCtrl fun w => .wr .wfgCtrl (replaceToggle (replaceToggle w .c0 t0) .c1 t1) (.ret .ok)

/-- `set_match_count(mode, counter, value)` (30_encoding.md R135). -/
def setMatchCount (mode : Mode) (c : Channel) (value : Word) : Prog Status :=
  match mode with
  | .bits32 => .wr .matchReg value (.ret .ok)
  | .bits16 =>
    if 65535 < value.toNat then .ret .invalidParameter
    else .rd .matchReg fun m => .wr .matchReg (putSlice false m c value) (.ret .ok)

/-- `set_initial_count(mode, value0, value1)` (30_encoding.md R136). -/
def setInitialCount (mode : Mode) (value0 value1 : Word) : Prog Status :=
  match mode with
  | .bits32 => .wr .counter value0 (.ret .ok)
  | .bits16 =>
    if 65535 < value0.toNat ∨ 65535 < value1.toNat then .ret .invalidParameter
    else .wr .counter (value0 ||| value1 <<< 16) (.ret .ok)

/-- `get_count(mode, counter)` (30_encoding.md R137). DESIGN CHOICE: R125 says that each call returns a status and R137
that the result is the count; the model answers the count and no status (log 26). -/
def getCount (mode : Mode) (c : Channel) : Prog Word :=
  .rd .counter fun n => .ret (slice (mode == .bits32) n c)

/-- `set_output_adc_pin(pin1, pin2)` (30_encoding.md R138). DESIGN CHOICE: the spec gives the pins no type; the model
takes any natural number, so that every pin the check rejects can be written (log 23). -/
def setOutputAdcPin (pin1 pin2 : Nat) : Prog Status :=
  if 15 < pin1 ∨ 15 < pin2 then .ret .invalidParameter
  else .wr .adcSel (BitVec.ofNat 32 pin1 ||| BitVec.ofNat 32 pin2 <<< 4) (.ret .ok)

/-- `register_callback(cb, flag, flags)`, given whether the host's one callback slot is taken; the second
component is whether it is taken afterwards (30_encoding.md R139; log 14 for the order of the checks). -/
def registerCallback (taken callbackNull : Bool) (flags : Option (List (Cause × Channel))) :
    Prog (Status × Bool) :=
  if taken then .ret (.busy, true)
  else
    match callbackNull, flags with
    | false, some fs => .wr .intrUnmask (causeFlags fs) (.ret (.ok, true))
    | _, _ => .ret (.nullPointer, false)

/-- `unregister_callback(flags)`: the causes of the resupplied flags are masked again and the slot is free
(30_encoding.md R140). -/
def unregisterCallback (flags : List (Cause × Channel)) : Prog (Status × Bool) :=
  .wr .intrMask (causeFlags flags) (.ret (.ok, false))

/-- `isr()`: the cause code the handler hands to the callback (30_encoding.md R141). DESIGN CHOICE: R125 says that each
call returns a status and R141 gives `isr()` none; the model answers the cause code and no status (log 26). -/
def isr : Prog (BitVec 4) := .svc .ret

/-- The two-operation form of `isr()` without the strobe (30_encoding.md R141). DESIGN CHOICE: it answers the cause code
and no status, as `isr` (log 26). -/
def isrByAcknowledge : Prog (BitVec 4) :=
  .rd .intrSts fun s =>
    match arbiterWinner s with
    | none => .ret 0
    | some (k, c) => .wr .intrAck (causeWord k c) (.ret (causeCode k c))

/-- What the DMA engine, which is outside the block (00_scope.md R4), answers the driver: an input of the two calls
below. The numbers of its status codes are not in the spec (log 16). -/
inductive DmaAnswer where
  | accepted
  | failed (code : Nat)
deriving DecidableEq, Repr

/-- The status of a call that uses the DMA engine: one of the driver's own, or the engine's, "returned verbatim as the
underlying subsystem's status code" (60_exceptions.md R373 d). -/
inductive CallStatus where
  | own (s : Status)
  | propagated (code : Nat)
deriving DecidableEq, Repr

/-- "Any DMA-engine error is surfaced as a propagated status code" (30_encoding.md R142). -/
def DmaAnswer.status : DmaAnswer → CallStatus
  | .accepted => .own .ok
  | .failed code => .propagated code

/-- `set_dma_configuration(compare_values, channel)`: it issues nothing to the block (30_encoding.md R142). -/
def setDmaConfiguration (engine : DmaAnswer) : Prog CallStatus := .ret engine.status

/-- The four bytes of one element of the host's compare-value array, at rising addresses: the engine reads the array
"with 32-bit granularity" (20_memory.md R81, R93). -/
structure HostBytes where
  b0 : BitVec 8
  b1 : BitVec 8
  b2 : BitVec 8
  b3 : BitVec 8
deriving DecidableEq, Repr

/-- The compare value an element holds: "which byte of host memory lands in which bits of the word written to
OCU_COMPARE_NXT is fixed by the host, parameter `HOST_ENDIAN`" (20_memory.md R81; log 27). -/
def HostBytes.word (x : HostBytes) : Endian → Word
  | .little => x.b3 ++ x.b2 ++ x.b1 ++ x.b0
  | .big => x.b0 ++ x.b1 ++ x.b2 ++ x.b3

/-- What a call of `dma_transfer` leaves. -/
structure DmaTransfer where
  status : CallStatus
  /-- The channel's running index afterwards. -/
  index : Nat
  /-- The one operation of the transfer kicked off. It is the DMA engine's, "performed some time later"
  (30_encoding.md R142): the call does not perform it, and where it falls among the operations of the other agents is
  open (20_memory.md R96). -/
  write : Option Instr
deriving DecidableEq, Repr

/-- `dma_transfer(compare_values, channel, transfer)`, given the channel's running index (30_encoding.md R142,
20_memory.md R93). The call itself issues nothing to the block. DESIGN CHOICE: the transfer is of the element at the
index the call finds, and the index is advanced past it; R142 also says that the call advances the index to "the new
array element", and that it advances on each completed transfer (log 16). Where the engine fails there is no transfer,
nothing is retried (60_exceptions.md R373) and the index stays (log 16). DESIGN CHOICE: past the end of the array, where
the spec is silent, an engine that accepts gives the status OK, with no transfer and the index kept (log 16). -/
def dmaTransfer (values : List Word) (index : Nat) (engine : DmaAnswer) : Prog DmaTransfer :=
  match engine, values[index]? with
  | .accepted, some v => .ret ⟨.own .ok, index + 1, some (.wrOcuCompareNxt v)⟩
  | _, _ => .ret ⟨engine.status, index, none⟩

/-- `dma_transfer` of an array as it lies in the host's memory, over the parameter `HOST_ENDIAN` (00_scope.md R6). -/
def dmaTransferWith (hostEndian : Endian) (array : List HostBytes) (index : Nat) (engine : DmaAnswer) :
    Prog DmaTransfer :=
  dmaTransfer (array.map (·.word hostEndian)) index engine

/-- `dma_transfer` of an array in the memory of this host, whose byte order the spec leaves open (log 8). -/
def dmaTransferFromHost (array : List HostBytes) (index : Nat) (engine : DmaAnswer) : Prog DmaTransfer :=
  dmaTransferWith Config.hostEndian array index engine

end Sys2Proof.Machine
end

