-- ==== Sys2Proof/Safety.lean ====
section
/-! DEFINITION. What counts as a safe state and a disciplined agent: the invariants of 10_state.md R59, the states
in which a tick is performed (45_tick_events.md R261, 70_reset_and_hazards.md R414), and which agent may issue
which operation (00_scope.md R12). -/

namespace Sys2Proof.Machine

/-- "`HALT_c = 1` implies `RUN_c = 1`" (10_state.md R59 a). -/
abbrev Block.HaltImpliesRun (b : Block) : Prop :=
  (b.ch0.halt = true → b.ch0.run = true) ∧ (b.ch1.halt = true → b.ch1.run = true)

/-- The registers whose implemented bits R59 (b) bounds, one by one: reserved bits are 0. -/
abbrev Block.RegistersMasked (b : Block) : Prop :=
  b.level &&& ~~~levelMask = 0 ∧ b.sts &&& ~~~causeBits = 0 ∧ b.mask &&& ~~~causeBits = 0 ∧
    b.ocuCtrl &&& ~~~ocuMask = 0 ∧ b.wfgCtrl &&& ~~~wfgMask = 0 ∧ b.adcSel &&& ~~~adcMask = 0

/-- The reserved bits of the 24 event registers are 0 (10_state.md R59 b). -/
abbrev Block.EventsMasked (b : Block) : Prop :=
  ∀ a ∈ Action.all, b.evtSel.get a &&& ~~~selMask = 0 ∧ b.evtAnd.get a &&& ~~~combMask = 0 ∧
    b.evtOr.get a &&& ~~~combMask = 0

/-- The invariants "that hold after `RST` and are kept by every operation" (10_state.md R59). -/
abbrev Block.Inv (b : Block) : Prop := b.HaltImpliesRun ∧ b.RegistersMasked ∧ b.EventsMasked

/-- A state in which a `TICK` is performed, not refused (45_tick_events.md R261). -/
abbrev Block.TickAccepted (b : Block) : Prop := b.tickRefusal = none

/-- Neither half of a select word holds a reserved event code (45_tick_events.md R264). -/
def noReservedCode (d : Word) : Bool :=
  Channel.all.all fun c => (Event.ofCode (eventField d c)).isSome

/-- An operation that keeps ticks performed: it stores no event code of 39 or more in a select register and
does not set `SYNC_EN_c` (70_reset_and_hazards.md R414). -/
def disciplined : Op → Bool
  | .wr (.evt _ .sel) d => noReservedCode d
  | .wr .ocuCtrl d => !chanBit d syncEnBit .c0 && !chanBit d syncEnBit .c1
  | .wr _ _ => true
  | .rd _ => true
  | .tick _ => true
  | .svc => true
  | .rst => true

/-- The agents that apply operations to the block (00_scope.md R12). -/
inductive Agent where
  | host
  | dmaEngine
  | clock
  | frontEnd
  | platform
deriving DecidableEq, Repr

/-- Which operation an agent may issue, given the block's outputs: the DMA engine only writes OCU_COMPARE_NXT
(20_memory.md R93), the front-end issues `SVC` only while `irq = 1` (60_exceptions.md R362). `systemStep` applies
every operation by this rule (`issueAs`). -/
def Agent.mayIssue (b : Block) : Agent → Op → Bool
  | .host, .rd _ => true
  | .host, .wr _ _ => true
  | .dmaEngine, .wr .ocuCompareNxt _ => true
  | .clock, .tick _ => true
  | .frontEnd, .svc => irq b
  | .platform, .rst => true
  | _, _ => false

/-- A DMA engine that honours the request of channel `c` (20_memory.md R94). -/
def honoursRequest (b : Block) (c : Channel) (o : Op) : Prop :=
  ∀ d, o = .wr .ocuCompareNxt d → dmaReq b c = true

end Sys2Proof.Machine
end

