-- ==== Sys2Proof/Certificates/Slice0/Vocabulary.lean ====
section
/-! DEFINITION. The words the statements are written in: the spec's own quantities, transcribed from its rules
over numbers and single bits, at the bit positions its tables give. They are written apart from the model's
functions of the same things, so that a statement that equates the two says something. -/

namespace Sys2Proof.Claims

open Sys2Proof.Machine

/-! ### Answers -/

/-- The command word `K OOO DDDDDDDD` as a number: kind, offset and data (30_encoding.md R111). -/
def cmd (kind off : Nat) (data : Word) : CommandWord := BitVec.ofNat 48 (kind * 2 ^ 44 + off * 2 ^ 32 + data.toNat)

/-- The instruction whose command word is `w` completes: it answers a next state, with the given block and the
given answer. -/
def Answers (w : CommandWord) (i : Instr) (s : State) (b : Block) (r : Response) : Prop :=
  encode i = w ∧ ∃ t, exec i s = .next t ∧ t.toBlock = b ∧ t.resp = r

/-! ### Words, channels and fields (00_scope.md R7, R8) -/

/-- The number of a channel. -/
def idx : Channel → Nat
  | .c0 => 0
  | .c1 => 1

/-- The bit of a word at counter-0 position `p`, for channel `c`: position `p + 16c` (00_scope.md R8). -/
def bit (w : Word) (p : Nat) (c : Channel) : Bool := w.getLsbD (p + 16 * idx c)

/-- The field of `width` bits at counter-0 position `p`, for channel `c`, as a number (00_scope.md R7, R8). -/
def field (w : Word) (p width : Nat) (c : Channel) : Nat := w.toNat / 2 ^ (p + 16 * idx c) % 2 ^ width

/-- The slice of a packed word that channel `c` owns, as a number (00_scope.md R8); the mode is `MODE32`. -/
def part (mode32 : Bool) (w : Word) (c : Channel) : Nat :=
  if mode32 then w.toNat else w.toNat / 2 ^ (16 * idx c) % 2 ^ 16

/-- `MAX = 2^W - 1` (46_tick_counting.md R290). -/
def maxOf (mode32 : Bool) : Nat := if mode32 then 2 ^ 32 - 1 else 2 ^ 16 - 1

/-- `MODE32`: bit 0 of the control word (10_state.md R27). -/
def mode (b : Block) : Bool := b.level.getLsbD 0

/-- The active channels: counter 0 always, counter 1 in 16-bit mode (00_scope.md R8). -/
def isActive (b : Block) (c : Channel) : Bool := idx c == 0 || !mode b

/-! ### Events and firing (45_tick_events.md R262 to R268) -/

/-- `rise[i] = in[i] & ~PREV_IN[i]` (45_tick_events.md R262). -/
def rise (b : Block) (inp : BitVec 4) (i : Nat) : Bool := inp.getLsbD i && !b.prevIn.getLsbD i

/-- `fall[i] = ~in[i] & PREV_IN[i]` (45_tick_events.md R262). -/
def fall (b : Block) (inp : BitVec 4) (i : Nat) : Bool := !inp.getLsbD i && b.prevIn.getLsbD i

/-- `V[i]` of a combiner word: the valid bit of line `i` (45_tick_events.md R266, R267). -/
def valid (w : Word) (c : Channel) (i : Nat) : Bool := bit w (8 + i) c

/-- `P[i]` of a combiner word: the required level of line `i` (45_tick_events.md R266, R267). -/
def required (w : Word) (c : Channel) (i : Nat) : Bool := bit w i c

/-- `AND_out(a,c)` (45_tick_events.md R266). -/
def andOut (b : Block) (inp : BitVec 4) (a : Action) (c : Channel) : Bool :=
  let w := b.evtAnd.get a
  (valid w c 0 || valid w c 1 || valid w c 2 || valid w c 3) &&
    [0, 1, 2, 3].all fun i => !valid w c i || inp.getLsbD i == required w c i

/-- `OR_out(a,c)` (45_tick_events.md R267). -/
def orOut (b : Block) (inp : BitVec 4) (a : Action) (c : Channel) : Bool :=
  let w := b.evtOr.get a
  [0, 1, 2, 3].any fun i => valid w c i && inp.getLsbD i == required w c i

/-- `ev(code)`, row by row of the table of 45_tick_events.md R264; the codes from 39 on have no row. -/
def ev (b : Block) (inp : BitVec 4) (andO orO : Bool) : Nat → Bool
  | 1 => rise b inp 0
  | 2 => rise b inp 1
  | 3 => rise b inp 2
  | 4 => rise b inp 3
  | 5 => fall b inp 0
  | 6 => fall b inp 1
  | 7 => fall b inp 2
  | 8 => fall b inp 3
  | 9 => rise b inp 0 || fall b inp 0
  | 10 => rise b inp 1 || fall b inp 1
  | 11 => rise b inp 2 || fall b inp 2
  | 12 => rise b inp 3 || fall b inp 3
  | 13 => !inp.getLsbD 0
  | 14 => !inp.getLsbD 1
  | 15 => !inp.getLsbD 2
  | 16 => !inp.getLsbD 3
  | 17 => inp.getLsbD 0
  | 18 => inp.getLsbD 1
  | 19 => inp.getLsbD 2
  | 20 => inp.getLsbD 3
  | 21 => andO
  | 22 => orO
  | 23 => rise b inp 0 && andO
  | 24 => rise b inp 0 && orO
  | 25 => rise b inp 1 && andO
  | 26 => rise b inp 1 && orO
  | 27 => rise b inp 2 && andO
  | 28 => rise b inp 2 && orO
  | 29 => rise b inp 3 && andO
  | 30 => rise b inp 3 && orO
  | 31 => b.riseReg.getLsbD 0 && andO
  | 32 => b.riseReg.getLsbD 0 && orO
  | 33 => b.riseReg.getLsbD 1 && andO
  | 34 => b.riseReg.getLsbD 1 && orO
  | 35 => b.riseReg.getLsbD 2 && andO
  | 36 => b.riseReg.getLsbD 2 && orO
  | 37 => b.riseReg.getLsbD 3 && andO
  | 38 => b.riseReg.getLsbD 3 && orO
  | _ => false

/-- `EV_c` of the select register of action `a` (10_state.md R50). -/
def eventCode (b : Block) (a : Action) (c : Channel) : Nat := field (b.evtSel.get a) 0 6 c

/-- `fire[a][c] = ev(code) or AND_out(a,c) or OR_out(a,c)` (45_tick_events.md R268). -/
def fire (b : Block) (inp : BitVec 4) (a : Action) (c : Channel) : Bool :=
  ev b inp (andOut b inp a c) (orOut b inp a c) (eventCode b a c) || andOut b inp a c || orOut b inp a c

/-! ### When a tick is performed (45_tick_events.md R261) -/

/-- Neither situation of 45_tick_events.md R261 holds: no `SYNC_EN` bit is set and none of the sixteen `EV_c`
fields holds a code from 39 to 63. -/
abbrev Allowed (b : Block) : Prop :=
  b.ocuCtrl &&& 0x00020002#32 = 0 ∧ ∀ a ∈ Action.all, eventCode b a .c0 < 39 ∧ eventCode b a .c1 < 39

/-- A tick of a state in which R261 allows it is performed, and the state it leaves satisfies `P`. -/
def Ticked (inp : BitVec 4) (s : State) (P : State → Prop) : Prop :=
  Allowed s.toBlock → ∃ t, exec (.tick inp) s = .next t ∧ P t

/-! ### The quantities of one tick (46_tick_counting.md R290 to R301) -/

/-- `cnt` (46_tick_counting.md R290). -/
def cnt (b : Block) (c : Channel) : Nat := part (mode b) b.counter c

/-- `mat` (46_tick_counting.md R290). -/
def mat (b : Block) (c : Channel) : Nat := part (mode b) b.matchReg c

/-- `dir` (46_tick_counting.md R290): 0 and 1 count up, 2 counts down, 3 counts up and down (10_state.md R29). -/
def dir (b : Block) (c : Channel) : Nat := field b.level 4 2 c

/-- `per` (46_tick_counting.md R290). -/
def per (b : Block) (c : Channel) : Bool := bit b.level 2 c

/-- `inc_cfg_c` (46_tick_counting.md R292). -/
def incCfg (b : Block) (c : Channel) : Bool :=
  eventCode b .increment c != 0 || field (b.evtAnd.get .increment) 8 4 c != 0 ||
    field (b.evtOr.get .increment) 8 4 c != 0

/-- `enable_c` (46_tick_counting.md R292). -/
def enable (b : Block) (inp : BitVec 4) (c : Channel) : Bool :=
  if incCfg b c then fire b inp .increment c else true

/-- `counting` (46_tick_counting.md R291). -/
def counting (b : Block) (inp : BitVec 4) (c : Channel) : Bool :=
  (b.chan c).run && !(b.chan c).halt && enable b inp c

/-- `zero`, which is 0 on a tick that does not count (46_tick_counting.md R290, R293). -/
def zero (b : Block) (inp : BitVec 4) (c : Channel) : Bool := counting b inp c && cnt b c == 0

/-- `peak`, which is 0 on a tick that does not count (46_tick_counting.md R290, R293). -/
def peak (b : Block) (inp : BitVec 4) (c : Channel) : Bool := counting b inp c && cnt b c == mat b c

/-- `boundary`: "exactly these counting ticks: UP at `cnt == mat`; DOWN at `cnt == 0`; UP_DOWN descending at
`cnt == 0`" (46_tick_counting.md R300). -/
def boundary (b : Block) (inp : BitVec 4) (c : Channel) : Bool :=
  counting b inp c &&
    if dir b c = 2 then cnt b c == 0
    else if dir b c = 3 then (b.chan c).phase && cnt b c == 0
    else cnt b c == mat b c

/-- `nphase`, "`nphase = PHASE_c` when not counting" (46_tick_counting.md R294 to R298, R306). -/
def nphase (b : Block) (inp : BitVec 4) (c : Channel) : Bool :=
  if counting b inp c then
    if dir b c = 3 then (if (b.chan c).phase then cnt b c != 0 else cnt b c == mat b c) else false
  else (b.chan c).phase

/-- `start` (46_tick_counting.md R306, R307): bit 6 of the counter-0 half is `SYNC_TRIG` (10_state.md R27). -/
def start (b : Block) (inp : BitVec 4) (c : Channel) : Bool :=
  fire b inp .start c || (!mode b && bit b.level 6 c && fire b inp .start c.other)

/-- `stop` (46_tick_counting.md R306). -/
def stop (b : Block) (inp : BitVec 4) (c : Channel) : Bool := fire b inp .stop c

/-- `cmpeq` (47_tick_output.md R321, R322): bit 5 of the counter-0 half is `MODE_8BIT` (10_state.md R44). -/
def cmpeq (b : Block) (inp : BitVec 4) (c : Channel) : Bool :=
  counting b inp c &&
    if bit b.ocuCtrl 5 c then cnt b c % 256 == part (mode b) b.ocuCompare c % 256
    else cnt b c == part (mode b) b.ocuCompare c

/-! ### Sequences of operations -/

/-- The state after ticks with the given samples, if all of them are performed. -/
def runTicks : List (BitVec 4) → State → Option State
  | [], s => some s
  | inp :: rest, s =>
    match exec (.tick inp) s with
    | .next t => runTicks rest t
    | _ => none

/-- The state after the given instructions, if all of them answer a next state. -/
def runInstrs : List Instr → State → Option State
  | [], s => some s
  | i :: rest, s =>
    match exec i s with
    | .next t => runInstrs rest t
    | _ => none

/-- The cause codes of `n` services, one after the other, and the state after them. -/
def serve : Nat → State → Option (List (BitVec 4) × State)
  | 0, s => some ([], s)
  | n + 1, s =>
    match exec .svc s with
    | .next t =>
      match t.resp with
      | .cause code => (serve n t).map fun p => (code :: p.1, p.2)
      | _ => none
    | _ => none

/-- No event is bound to action `a` of channel `c`: code 0 and no valid bit in either combiner. -/
abbrev Unbound (b : Block) (a : Action) (c : Channel) : Prop :=
  eventCode b a c = 0 ∧ field (b.evtAnd.get a) 8 4 c = 0 ∧ field (b.evtOr.get a) 8 4 c = 0

/-- Channel `c` is active and its run state is out of reach of the events: nothing is bound to its start, stop,
halt and increment actions, and in 16-bit mode its `SYNC_TRIG` is 0, so that only the end of a one-shot period
can change it. Ticks are performed. -/
abbrev Undisturbed (b : Block) (c : Channel) : Prop :=
  Allowed b ∧ isActive b c = true ∧ Unbound b .start c ∧ Unbound b .stop c ∧ Unbound b .halt c ∧
    Unbound b .increment c ∧ (mode b = true ∨ bit b.level 6 c = false)

/-- Channel `c` is undisturbed, running and not halted. -/
abbrev FreeRunning (b : Block) (c : Channel) : Prop :=
  Undisturbed b c ∧ (b.chan c).run = true ∧ (b.chan c).halt = false

/-- Two blocks look alike from channel `c` in 16-bit mode: its half of every register, its one-bit elements and the
input history agree. -/
structure SameFor (c : Channel) (b b' : Block) : Prop where
  level : field b.level 1 7 c = field b'.level 1 7 c
  sts : field b.sts 0 16 c = field b'.sts 0 16 c
  matchReg : field b.matchReg 0 16 c = field b'.matchReg 0 16 c
  counter : field b.counter 0 16 c = field b'.counter 0 16 c
  captureReg : field b.captureReg 0 16 c = field b'.captureReg 0 16 c
  ocuCtrl : field b.ocuCtrl 0 16 c = field b'.ocuCtrl 0 16 c
  ocuCompare : field b.ocuCompare 0 16 c = field b'.ocuCompare 0 16 c
  ocuCompareNxt : field b.ocuCompareNxt 0 16 c = field b'.ocuCompareNxt 0 16 c
  wfgCtrl : field b.wfgCtrl 0 16 c = field b'.wfgCtrl 0 16 c
  evtSel : ∀ a, field (b.evtSel.get a) 0 16 c = field (b'.evtSel.get a) 0 16 c
  evtAnd : ∀ a, field (b.evtAnd.get a) 0 16 c = field (b'.evtAnd.get a) 0 16 c
  evtOr : ∀ a, field (b.evtOr.get a) 0 16 c = field (b'.evtOr.get a) 0 16 c
  chan : b.chan c = b'.chan c
  prevIn : b.prevIn = b'.prevIn
  riseReg : b.riseReg = b'.riseReg

/-- The command word of a register access: a read carries no data (30_encoding.md R111, R121). -/
def access (off : Offset) (d : Word) : Dir → CommandWord
  | .read => CommandWord.make 0 off 0
  | .write => CommandWord.make 1 off d

/-! ### The arbiter (60_exceptions.md R356) -/

/-- The arbiter's order as a table: cause code and bit number of `STS` (48_system_ops.md R341). -/
def arbiterTable : List (BitVec 4 × Nat) :=
  [(1, 3), (2, 19), (3, 0), (4, 1), (5, 2), (6, 16), (7, 17), (8, 18)]

/-- The loop of 48_system_ops.md R341 over a table: the code returned and the status word it leaves. -/
def serviceLoop : List (BitVec 4 × Nat) → Word → BitVec 4 × Word
  | [], sts => (0, sts)
  | (code, n) :: rest, sts =>
    if sts.getLsbD n then (code, sts &&& ~~~(1#32 <<< n)) else serviceLoop rest sts

end Sys2Proof.Claims
end

