-- ==== Sys2Proof/Certificates/Slice0/Obligations.lean ====
section
/-! DEFINITION. The statements about the model, for the provers. The rules of spec/ that define the block's
operations are marked there as the spec's own decisions; each docstring names the rule and the decision D<n> of
92_eei_decisions.md it carries. The fields `issued`, `resp` and `clockOn` are the model's (log 2, log 4, log 24). -/

section

open Sys2Proof Sys2Proof.Machine Sys2Proof.Claims

/-! ### Register operations -/

/-- 40_control_regs.md R155 and R157 (D10): both control registers read `LEVEL`; reserved and pulse bits read 0
in every state that satisfies the invariants of 10_state.md R59. -/
def Obligations.ControlWordReads : Prop :=
  ∀ s : State,
    Answers (cmd 0 0x000 0) .rdGenCtrlSet s s.toBlock (.data s.level) ∧
    Answers (cmd 0 0x004 0) .rdGenCtrlReset s s.toBlock (.data s.level) ∧
    (s.Inv → s.level &&& ~~~0x00F400F5#32 = 0)

/-- 41_counter_data_regs.md R172, R174, R176 (D12, D13, D23): the reads of the counter data registers. -/
def Obligations.CounterDataReads : Prop :=
  ∀ s : State,
    Answers (cmd 0 0x020 0) .rdCounter s s.toBlock (.data s.counter) ∧
    Answers (cmd 0 0x018 0) .rdMatchReg s s.toBlock (.data s.matchReg) ∧
    Answers (cmd 0 0x01C 0) .rdCaptureReg s s.toBlock (.data s.captureReg)

/-- 43_ocu_wfg_regs.md R212, R215, R217, R221, R223 (D33, D34, D35, D38, D42): the reads of the OCU, WFG and
ADC-select registers; reserved bits read 0 in every state that satisfies the invariants of R59. -/
def Obligations.OcuReads : Prop :=
  ∀ s : State,
    Answers (cmd 0 0x024 0) .rdOcuCtrl s s.toBlock (.data s.ocuCtrl) ∧
    Answers (cmd 0 0x028 0) .rdOcuCompare s s.toBlock (.data s.ocuCompare) ∧
    Answers (cmd 0 0x02C 0) .rdOcuCompareNxt s s.toBlock (.data s.ocuCompareNxt) ∧
    Answers (cmd 0 0x030 0) .rdWfgCtrl s s.toBlock (.data s.wfgCtrl) ∧
    Answers (cmd 0 0x034 0) .rdAdcSel s s.toBlock (.data s.adcSel) ∧
    (s.Inv → s.ocuCtrl &&& ~~~0x02730273#32 = 0 ∧ s.wfgCtrl &&& ~~~0x00030003#32 = 0 ∧
      s.adcSel &&& ~~~0x000000FF#32 = 0)

/-- 44_interrupt_regs.md R242, R244, R246, R248, R250 (D44, D45, D46): the reads of the interrupt registers and of
the arbiter; the unmasked set and the mask are complements in every state that satisfies R59. -/
def Obligations.InterruptReads : Prop :=
  ∀ s : State,
    Answers (cmd 0 0x008 0) .rdIntrSts s s.toBlock (.data s.sts) ∧
    Answers (cmd 0 0x00C 0) .rdIntrMask s s.toBlock (.data s.mask) ∧
    Answers (cmd 0 0x010 0) .rdIntrUnmask s s.toBlock (.data (~~~s.mask &&& 0x000F000F#32)) ∧
    Answers (cmd 0 0x014 0) .rdIntrAck s s.toBlock (.data 0) ∧
    Answers (cmd 0 0x038 0) .rdArbCause s s.toBlock (.data ((serviceLoop arbiterTable s.sts).1.setWidth 32)) ∧
    (s.Inv → s.sts &&& ~~~0x000F000F#32 = 0 ∧
      (~~~s.mask &&& 0x000F000F#32) ||| s.mask = 0x000F000F#32 ∧
      (~~~s.mask &&& 0x000F000F#32) &&& s.mask = 0)

/-- 42_event_regs.md R432, R438, R444, R450, R456, R462, R468, R474 (D27): the reads of the select registers. -/
def Obligations.SelectReads : Prop :=
  ∀ s : State,
    Answers (cmd 0 0x040 0) .rdStartSel s s.toBlock (.data s.evtSel.start) ∧
    Answers (cmd 0 0x04C 0) .rdStopSel s s.toBlock (.data s.evtSel.stop) ∧
    Answers (cmd 0 0x058 0) .rdContSel s s.toBlock (.data s.evtSel.cont) ∧
    Answers (cmd 0 0x064 0) .rdHaltSel s s.toBlock (.data s.evtSel.halt) ∧
    Answers (cmd 0 0x070 0) .rdIncrementSel s s.toBlock (.data s.evtSel.increment) ∧
    Answers (cmd 0 0x07C 0) .rdCaptureSel s s.toBlock (.data s.evtSel.capture) ∧
    Answers (cmd 0 0x088 0) .rdInterruptSel s s.toBlock (.data s.evtSel.interrupt) ∧
    Answers (cmd 0 0x094 0) .rdOutputSel s s.toBlock (.data s.evtSel.output) ∧
    (s.Inv → ∀ a, s.evtSel.get a &&& ~~~0x003F003F#32 = 0)

/-- 42_event_regs.md R434, R440, R446, R452, R458, R464, R470, R476 (D27): the reads of the AND-event registers. -/
def Obligations.AndReads : Prop :=
  ∀ s : State,
    Answers (cmd 0 0x044 0) .rdStartAnd s s.toBlock (.data s.evtAnd.start) ∧
    Answers (cmd 0 0x050 0) .rdStopAnd s s.toBlock (.data s.evtAnd.stop) ∧
    Answers (cmd 0 0x05C 0) .rdContAnd s s.toBlock (.data s.evtAnd.cont) ∧
    Answers (cmd 0 0x068 0) .rdHaltAnd s s.toBlock (.data s.evtAnd.halt) ∧
    Answers (cmd 0 0x074 0) .rdIncrementAnd s s.toBlock (.data s.evtAnd.increment) ∧
    Answers (cmd 0 0x080 0) .rdCaptureAnd s s.toBlock (.data s.evtAnd.capture) ∧
    Answers (cmd 0 0x08C 0) .rdInterruptAnd s s.toBlock (.data s.evtAnd.interrupt) ∧
    Answers (cmd 0 0x098 0) .rdOutputAnd s s.toBlock (.data s.evtAnd.output) ∧
    (s.Inv → ∀ a, s.evtAnd.get a &&& ~~~0x0F3F0F3F#32 = 0)

/-- 42_event_regs.md R436, R442, R448, R454, R460, R466, R472, R478 (D27): the reads of the OR-event registers. -/
def Obligations.OrReads : Prop :=
  ∀ s : State,
    Answers (cmd 0 0x048 0) .rdStartOr s s.toBlock (.data s.evtOr.start) ∧
    Answers (cmd 0 0x054 0) .rdStopOr s s.toBlock (.data s.evtOr.stop) ∧
    Answers (cmd 0 0x060 0) .rdContOr s s.toBlock (.data s.evtOr.cont) ∧
    Answers (cmd 0 0x06C 0) .rdHaltOr s s.toBlock (.data s.evtOr.halt) ∧
    Answers (cmd 0 0x078 0) .rdIncrementOr s s.toBlock (.data s.evtOr.increment) ∧
    Answers (cmd 0 0x084 0) .rdCaptureOr s s.toBlock (.data s.evtOr.capture) ∧
    Answers (cmd 0 0x090 0) .rdInterruptOr s s.toBlock (.data s.evtOr.interrupt) ∧
    Answers (cmd 0 0x09C 0) .rdOutputOr s s.toBlock (.data s.evtOr.output) ∧
    (s.Inv → ∀ a, s.evtOr.get a &&& ~~~0x0F3F0F3F#32 = 0)

/-- 42_event_regs.md R431, R437, R443, R449, R455, R461, R467, R473 (D24, D27): a write of a select register
stores the implemented bits and changes nothing else, and a stored code from 39 to 63 makes every tick refused
(R480, D55). -/
def Obligations.SelectWrites : Prop :=
  ∀ (d : Word) (s : State),
    Answers (cmd 1 0x040 d) (.wrStartSel d) s { s.toBlock with evtSel := { s.evtSel with start := d &&& 0x003F003F#32 } } .ok ∧
    Answers (cmd 1 0x04C d) (.wrStopSel d) s { s.toBlock with evtSel := { s.evtSel with stop := d &&& 0x003F003F#32 } } .ok ∧
    Answers (cmd 1 0x058 d) (.wrContSel d) s { s.toBlock with evtSel := { s.evtSel with cont := d &&& 0x003F003F#32 } } .ok ∧
    Answers (cmd 1 0x064 d) (.wrHaltSel d) s { s.toBlock with evtSel := { s.evtSel with halt := d &&& 0x003F003F#32 } } .ok ∧
    Answers (cmd 1 0x070 d) (.wrIncrementSel d) s { s.toBlock with evtSel := { s.evtSel with increment := d &&& 0x003F003F#32 } } .ok ∧
    Answers (cmd 1 0x07C d) (.wrCaptureSel d) s { s.toBlock with evtSel := { s.evtSel with capture := d &&& 0x003F003F#32 } } .ok ∧
    Answers (cmd 1 0x088 d) (.wrInterruptSel d) s { s.toBlock with evtSel := { s.evtSel with interrupt := d &&& 0x003F003F#32 } } .ok ∧
    Answers (cmd 1 0x094 d) (.wrOutputSel d) s { s.toBlock with evtSel := { s.evtSel with output := d &&& 0x003F003F#32 } } .ok ∧
    (39 ≤ field d 0 6 .c0 ∨ 39 ≤ field d 0 6 .c1 →
      ∀ a, ∃ t, exec (wrInstr d (.evt a .sel)) s = .next t ∧
        ∀ inp, ∃ why, exec (.tick inp) t = .refused why)

/-- 42_event_regs.md R433, R439, R445, R451, R457, R463, R469, R475 (D27, D28): a write of an AND-event register
stores the implemented bits and changes nothing else. -/
def Obligations.AndWrites : Prop :=
  ∀ (d : Word) (s : State),
    Answers (cmd 1 0x044 d) (.wrStartAnd d) s { s.toBlock with evtAnd := { s.evtAnd with start := d &&& 0x0F3F0F3F#32 } } .ok ∧
    Answers (cmd 1 0x050 d) (.wrStopAnd d) s { s.toBlock with evtAnd := { s.evtAnd with stop := d &&& 0x0F3F0F3F#32 } } .ok ∧
    Answers (cmd 1 0x05C d) (.wrContAnd d) s { s.toBlock with evtAnd := { s.evtAnd with cont := d &&& 0x0F3F0F3F#32 } } .ok ∧
    Answers (cmd 1 0x068 d) (.wrHaltAnd d) s { s.toBlock with evtAnd := { s.evtAnd with halt := d &&& 0x0F3F0F3F#32 } } .ok ∧
    Answers (cmd 1 0x074 d) (.wrIncrementAnd d) s { s.toBlock with evtAnd := { s.evtAnd with increment := d &&& 0x0F3F0F3F#32 } } .ok ∧
    Answers (cmd 1 0x080 d) (.wrCaptureAnd d) s { s.toBlock with evtAnd := { s.evtAnd with capture := d &&& 0x0F3F0F3F#32 } } .ok ∧
    Answers (cmd 1 0x08C d) (.wrInterruptAnd d) s { s.toBlock with evtAnd := { s.evtAnd with interrupt := d &&& 0x0F3F0F3F#32 } } .ok ∧
    Answers (cmd 1 0x098 d) (.wrOutputAnd d) s { s.toBlock with evtAnd := { s.evtAnd with output := d &&& 0x0F3F0F3F#32 } } .ok

/-- 42_event_regs.md R435, R441, R447, R453, R459, R465, R471, R477 (D27, D28): a write of an OR-event register
stores the implemented bits and changes nothing else. -/
def Obligations.OrWrites : Prop :=
  ∀ (d : Word) (s : State),
    Answers (cmd 1 0x048 d) (.wrStartOr d) s { s.toBlock with evtOr := { s.evtOr with start := d &&& 0x0F3F0F3F#32 } } .ok ∧
    Answers (cmd 1 0x054 d) (.wrStopOr d) s { s.toBlock with evtOr := { s.evtOr with stop := d &&& 0x0F3F0F3F#32 } } .ok ∧
    Answers (cmd 1 0x060 d) (.wrContOr d) s { s.toBlock with evtOr := { s.evtOr with cont := d &&& 0x0F3F0F3F#32 } } .ok ∧
    Answers (cmd 1 0x06C d) (.wrHaltOr d) s { s.toBlock with evtOr := { s.evtOr with halt := d &&& 0x0F3F0F3F#32 } } .ok ∧
    Answers (cmd 1 0x078 d) (.wrIncrementOr d) s { s.toBlock with evtOr := { s.evtOr with increment := d &&& 0x0F3F0F3F#32 } } .ok ∧
    Answers (cmd 1 0x084 d) (.wrCaptureOr d) s { s.toBlock with evtOr := { s.evtOr with capture := d &&& 0x0F3F0F3F#32 } } .ok ∧
    Answers (cmd 1 0x090 d) (.wrInterruptOr d) s { s.toBlock with evtOr := { s.evtOr with interrupt := d &&& 0x0F3F0F3F#32 } } .ok ∧
    Answers (cmd 1 0x09C d) (.wrOutputOr d) s { s.toBlock with evtOr := { s.evtOr with output := d &&& 0x0F3F0F3F#32 } } .ok

/-- 41_counter_data_regs.md R171, R173, R175 (D12, D13, D50, D59): COUNTER and MATCH are replaced, whatever runs;
a write of CAPTURE is accepted and changes nothing. -/
def Obligations.CounterDataWrites : Prop :=
  ∀ (d : Word) (s : State),
    Answers (cmd 1 0x020 d) (.wrCounter d) s { s.toBlock with counter := d } .ok ∧
    Answers (cmd 1 0x018 d) (.wrMatchReg d) s { s.toBlock with matchReg := d } .ok ∧
    Answers (cmd 1 0x01C d) (.wrCaptureReg d) s s.toBlock .ok

/-- 43_ocu_wfg_regs.md R211, R214, R220, R222 (D33, D34, D38, D42): the plain stores of the OCU family. -/
def Obligations.OcuStores : Prop :=
  ∀ (d : Word) (s : State),
    Answers (cmd 1 0x024 d) (.wrOcuCtrl d) s { s.toBlock with ocuCtrl := d &&& 0x02730273#32 } .ok ∧
    Answers (cmd 1 0x028 d) (.wrOcuCompare d) s { s.toBlock with ocuCompare := d } .ok ∧
    Answers (cmd 1 0x030 d) (.wrWfgCtrl d) s { s.toBlock with wfgCtrl := d &&& 0x00030003#32 } .ok ∧
    Answers (cmd 1 0x034 d) (.wrAdcSel d) s { s.toBlock with adcSel := d &&& 0x000000FF#32 } .ok ∧
    (d.getLsbD 1 = true ∨ d.getLsbD 17 = true →
      ∃ t, exec (.wrOcuCtrl d) s = .next t ∧ ∀ inp, ∃ why, exec (.tick inp) t = .refused why)

/-- 44_interrupt_regs.md R241, R243, R245, R247, R249 (D44, D46, D50): masks set, masks cleared, status cleared by
the bits written 1; writes of the read-only registers change nothing. -/
def Obligations.InterruptWrites : Prop :=
  ∀ (d : Word) (s : State),
    Answers (cmd 1 0x008 d) (.wrIntrSts d) s s.toBlock .ok ∧
    Answers (cmd 1 0x00C d) (.wrIntrMask d) s { s.toBlock with mask := s.mask ||| (d &&& 0x000F000F#32) } .ok ∧
    Answers (cmd 1 0x010 d) (.wrIntrUnmask d) s { s.toBlock with mask := s.mask &&& ~~~(d &&& 0x000F000F#32) } .ok ∧
    Answers (cmd 1 0x014 d) (.wrIntrAck d) s { s.toBlock with sts := s.sts &&& ~~~(d &&& 0x000F000F#32) } .ok ∧
    Answers (cmd 1 0x038 d) (.wrArbCause d) s s.toBlock .ok

/-- 40_control_regs.md R156 (D10): the control-clear write, pulse bits and reserved bits included, in every state;
with every implemented bit written it leaves `LEVEL = 0` where the reserved bits are 0. -/
def Obligations.ControlClear : Prop :=
  ∀ (d : Word) (s : State),
    Answers (cmd 1 0x004 d) (.wrGenCtrlReset d) s { s.toBlock with level := s.level &&& ~~~(d &&& 0x00F400F5#32) } .ok ∧
    (s.Inv → s.level &&& ~~~(0x00FE00FF#32 &&& 0x00F400F5#32) = 0)

/-- 40_control_regs.md R151 to R154 (D9, D10, D31, D58): the control-set write. Level bits first; then, for the
channels active under the NEW `MODE32`, the soft reset and the start; nothing else changes, and an inactive
channel's run state does not. -/
def Obligations.ControlSet : Prop :=
  ∀ (d : Word) (s : State),
    encode (.wrGenCtrlSet d) = cmd 1 0x000 d ∧ ∃ t, exec (.wrGenCtrlSet d) s = .next t ∧ t.resp = .ok ∧
      t.level = s.level ||| (d &&& 0x00F400F5#32) ∧
      (t.sts = s.sts ∧ t.mask = s.mask ∧ t.matchReg = s.matchReg ∧ t.captureReg = s.captureReg ∧
        t.ocuCtrl = s.ocuCtrl ∧ t.ocuCompare = s.ocuCompare ∧ t.ocuCompareNxt = s.ocuCompareNxt ∧
        t.wfgCtrl = s.wfgCtrl ∧ t.adcSel = s.adcSel ∧ t.evtSel = s.evtSel ∧ t.evtAnd = s.evtAnd ∧
        t.evtOr = s.evtOr ∧ t.prevIn = s.prevIn ∧ t.riseReg = s.riseReg) ∧
      ∀ c,
        let m := mode t.toBlock
        let reset := bit d 1 c
        let started := bit d 3 c || (!m && bit t.level 6 c && bit d 3 c.other)
        (t.chan c).nxtValid = (s.chan c).nxtValid ∧ (t.chan c).out = (s.chan c).out ∧
        if isActive t.toBlock c then
          part m t.counter c = (if reset then 0 else part m s.counter c) ∧
          (t.chan c).run = (started || (!reset && (s.chan c).run)) ∧
          (t.chan c).halt = (!started && !reset && (s.chan c).halt) ∧
          (t.chan c).phase = (!started && !reset && (s.chan c).phase)
        else
          (t.chan c).run = (s.chan c).run ∧ (t.chan c).halt = (s.chan c).halt ∧
          (t.chan c).phase = (s.chan c).phase

/-- 43_ocu_wfg_regs.md R218 (D32, D35, D36): the write of the buffered thresholds, by channel: written through
without `BUF_EN`, left pending with it, `FIFO_FULL` where one was pending in DMA mode; nothing else changes. Bits 4
of OCU_CTRL and 7 of the control word are `DMA_EN` and `BUF_EN`. -/
def Obligations.NextCompareWrite : Prop :=
  ∀ (d : Word) (s : State),
    encode (.wrOcuCompareNxt d) = cmd 1 0x02C d ∧
    ∃ t, exec (.wrOcuCompareNxt d) s = .next t ∧ t.resp = .ok ∧ t.ocuCompareNxt = d ∧
      (t.level = s.level ∧ t.mask = s.mask ∧ t.matchReg = s.matchReg ∧ t.counter = s.counter ∧
        t.captureReg = s.captureReg ∧ t.ocuCtrl = s.ocuCtrl ∧ t.wfgCtrl = s.wfgCtrl ∧ t.adcSel = s.adcSel ∧
        t.evtSel = s.evtSel ∧ t.evtAnd = s.evtAnd ∧ t.evtOr = s.evtOr ∧ t.prevIn = s.prevIn ∧
        t.riseReg = s.riseReg) ∧
      (∀ n, n ≠ 1 → n ≠ 17 → t.sts.getLsbD n = s.sts.getLsbD n) ∧
      ∀ c,
        let m := mode s.toBlock
        ((t.chan c).run = (s.chan c).run ∧ (t.chan c).halt = (s.chan c).halt ∧
          (t.chan c).phase = (s.chan c).phase ∧ (t.chan c).out = (s.chan c).out) ∧
        if isActive s.toBlock c then
          if bit s.level 7 c then
            part m t.ocuCompare c = part m s.ocuCompare c ∧ (t.chan c).nxtValid = true ∧
            bit t.sts 1 c = (bit s.sts 1 c || ((s.chan c).nxtValid && bit s.ocuCtrl 4 c))
          else
            part m t.ocuCompare c = part m d c ∧ (t.chan c).nxtValid = (s.chan c).nxtValid ∧
            bit t.sts 1 c = bit s.sts 1 c
        else (t.chan c).nxtValid = (s.chan c).nxtValid ∧ bit t.sts 1 c = bit s.sts 1 c

/-- 48_system_ops.md R341 (D46): `SVC` runs the arbiter's loop over raw status; it returns the code of the first
pending cause and clears that bit alone, or returns 0 and changes nothing. -/
def Obligations.ServiceTakesFirst : Prop :=
  ∀ s : State,
    Answers (cmd 3 0 0) .svc s { s.toBlock with sts := (serviceLoop arbiterTable s.sts).2 }
      (.cause (serviceLoop arbiterTable s.sts).1)

/-- 48_system_ops.md R342 (D51): `RST`, in every state, leaves every element at the value the rule lists. -/
def Obligations.ResetRestores : Prop :=
  ∀ s : State, Answers (cmd 4 0 0) .rst s
    { level := 0, sts := 0, mask := 0x000F000F#32, matchReg := 0, counter := 0, captureReg := 0, ocuCtrl := 0,
      ocuCompare := 0, ocuCompareNxt := 0, wfgCtrl := 0, adcSel := 0,
      evtSel := ⟨0, 0, 0, 0, 0, 0, 0, 0⟩, evtAnd := ⟨0, 0, 0, 0, 0, 0, 0, 0⟩, evtOr := ⟨0, 0, 0, 0, 0, 0, 0, 0⟩,
      ch0 := ⟨false, false, false, false, false⟩, ch1 := ⟨false, false, false, false, false⟩,
      prevIn := 0, riseReg := 0 } .ok

/-- 10_state.md R57, R58 (D51, D3): the state the model starts from, and the output ports in it. -/
def Obligations.ResetState : Prop :=
  Sys2Proof.core.reset.toBlock =
    { level := 0, sts := 0, mask := 0x000F000F#32, matchReg := 0, counter := 0, captureReg := 0, ocuCtrl := 0,
      ocuCompare := 0, ocuCompareNxt := 0, wfgCtrl := 0, adcSel := 0,
      evtSel := ⟨0, 0, 0, 0, 0, 0, 0, 0⟩, evtAnd := ⟨0, 0, 0, 0, 0, 0, 0, 0⟩, evtOr := ⟨0, 0, 0, 0, 0, 0, 0, 0⟩,
      ch0 := ⟨false, false, false, false, false⟩, ch1 := ⟨false, false, false, false, false⟩,
      prevIn := 0, riseReg := 0 } ∧
    irq Block.reset = false ∧ arbCause Block.reset.sts = 0 ∧
    ∀ c, out Block.reset c = false ∧ dmaReq Block.reset c = false

/-! ### The tick -/

/-- 45_tick_events.md R261 (D41, D55): a tick is refused exactly where a `SYNC_EN` bit is set or a select field
holds a code of 39 or more; every other operation completes in every state. -/
def Obligations.TickRefusedExactly : Prop :=
  (∀ (inp : BitVec 4) (s : State), ¬Allowed s.toBlock → ∃ why, exec (.tick inp) s = .refused why) ∧
  (∀ (inp : BitVec 4) (s : State), Allowed s.toBlock → ∃ t, exec (.tick inp) s = .next t) ∧
  ∀ (i : Instr) (s : State), (∀ inp, i ≠ .tick inp) → ∃ t, exec i s = .next t

/-- 45_tick_events.md R260, R262, R263 (D26): what a tick never writes, the input history it leaves, and the tick of
two stopped counters with no event bound, which changes the input history alone. -/
def Obligations.TickFrame : Prop :=
  ∀ (inp : BitVec 4) (s : State),
    encode (.tick inp) = cmd 2 0 (inp.setWidth 32) ∧
    Ticked inp s fun t =>
      t.resp = .ok ∧ t.level = s.level ∧ t.mask = s.mask ∧ t.matchReg = s.matchReg ∧ t.ocuCtrl = s.ocuCtrl ∧
      t.ocuCompareNxt = s.ocuCompareNxt ∧ t.wfgCtrl = s.wfgCtrl ∧ t.adcSel = s.adcSel ∧ t.evtSel = s.evtSel ∧
      t.evtAnd = s.evtAnd ∧ t.evtOr = s.evtOr ∧ t.prevIn = inp ∧
      (∀ i, t.riseReg.getLsbD i = rise s.toBlock inp i) ∧
      ((∀ c a, Unbound s.toBlock a c) → (∀ c, (s.chan c).run = false ∧ (s.chan c).halt = false) →
        t.toBlock = { s.toBlock with prevIn := t.prevIn, riseReg := t.riseReg })

/-- 45_tick_events.md R264 to R268 (D25, D26, D28, D29): whether an action fires is the selected event of the table,
or the AND combiner, or the OR combiner. The names and the order of the codes are the spec's recollection
(93_implementation_defined.md G2; log 11). -/
def Obligations.ActionsFire : Prop :=
  ∀ (b : Block) (inp : BitVec 4) (a : Action) (c : Channel),
    eventCode b a c < 39 → fires b (b.sample inp) a c = fire b inp a c

/-- 46_tick_counting.md R291, R292 (D15, D17, D20, D22): which ticks count; on the others the count and the phase
stand still and neither PEAK nor ZERO is set. -/
def Obligations.CountingTicks : Prop :=
  ∀ (inp : BitVec 4) (s : State) (c : Channel), isActive s.toBlock c = true →
    (Allowed s.toBlock → s.counting (s.sample inp) c = counting s.toBlock inp c) ∧
    Ticked inp s fun t =>
      counting s.toBlock inp c = false →
        cnt t.toBlock c = cnt s.toBlock c ∧ bit t.sts 3 c = bit s.sts 3 c ∧ bit t.sts 2 c = bit s.sts 2 c ∧
        (t.chan c).phase = (!start s.toBlock inp c && !stop s.toBlock inp c && (s.chan c).phase) ∧
        (s.countStep (s.sample inp) c).boundary = false

/-- 46_tick_counting.md R294, R295 (D15, D16): the counting tick of an up-counter. Direction 0 counts up as 1 does
(10_state.md R29, D11). -/
def Obligations.UpStep : Prop :=
  ∀ (inp : BitVec 4) (s : State) (c : Channel), isActive s.toBlock c = true →
    counting s.toBlock inp c = true → dir s.toBlock c = 0 ∨ dir s.toBlock c = 1 →
    Ticked inp s fun t =>
      let n := cnt s.toBlock c
      cnt t.toBlock c =
        (if n = mat s.toBlock c then 0 else if n = maxOf (mode s.toBlock) then n else n + 1) ∧
      (t.chan c).phase = false ∧
      (s.countStep (s.sample inp) c).boundary = decide (n = mat s.toBlock c)

/-- 46_tick_counting.md R296 (D15): the counting tick of a down-counter. -/
def Obligations.DownStep : Prop :=
  ∀ (inp : BitVec 4) (s : State) (c : Channel), isActive s.toBlock c = true →
    counting s.toBlock inp c = true → dir s.toBlock c = 2 →
    Ticked inp s fun t =>
      let n := cnt s.toBlock c
      cnt t.toBlock c = (if n = 0 then mat s.toBlock c else n - 1) ∧
      (t.chan c).phase = false ∧
      (s.countStep (s.sample inp) c).boundary = decide (n = 0)

/-- 46_tick_counting.md R297 (D19): the counting tick of an ascending up-down counter; the phase is cleared by a
start or a stop of the same tick (R306). -/
def Obligations.UpDownAscends : Prop :=
  ∀ (inp : BitVec 4) (s : State) (c : Channel), isActive s.toBlock c = true →
    counting s.toBlock inp c = true → dir s.toBlock c = 3 → (s.chan c).phase = false →
    Ticked inp s fun t =>
      let n := cnt s.toBlock c
      cnt t.toBlock c =
        (if n = mat s.toBlock c then (if n = 0 then 0 else n - 1)
          else if n = maxOf (mode s.toBlock) then n else n + 1) ∧
      (t.chan c).phase =
        (decide (n = mat s.toBlock c) && !start s.toBlock inp c && !stop s.toBlock inp c) ∧
      (s.countStep (s.sample inp) c).boundary = false

/-- 46_tick_counting.md R298 (D19): the counting tick of a descending up-down counter. -/
def Obligations.UpDownDescends : Prop :=
  ∀ (inp : BitVec 4) (s : State) (c : Channel), isActive s.toBlock c = true →
    counting s.toBlock inp c = true → dir s.toBlock c = 3 → (s.chan c).phase = true →
    Ticked inp s fun t =>
      let n := cnt s.toBlock c
      cnt t.toBlock c =
        (if n = 0 then (if per s.toBlock c = true ∧ mat s.toBlock c ≠ 0 then 1 else 0) else n - 1) ∧
      (t.chan c).phase = (decide (n ≠ 0) && !start s.toBlock inp c && !stop s.toBlock inp c) ∧
      (s.countStep (s.sample inp) c).boundary = decide (n = 0)

/-- 46_tick_counting.md R300 (D35): the ticks that end a period, in every direction, counting or not. -/
def Obligations.BoundaryExactly : Prop :=
  ∀ (b : Block) (inp : BitVec 4) (c : Channel), isActive b c = true → Allowed b →
    (b.countStep (b.sample inp) c).boundary = boundary b inp c

/-- 46_tick_counting.md R306, R307 (D20, D31): the run state after a tick, with all priorities and the sync-trigger. -/
def Obligations.RunStateAfterTick : Prop :=
  ∀ (inp : BitVec 4) (s : State) (c : Channel), isActive s.toBlock c = true →
    Ticked inp s fun t =>
      let b := s.toBlock
      (t.chan c).run =
        (if stop b inp c then false else if start b inp c then true
          else if boundary b inp c && !per b c then false else (s.chan c).run) ∧
      (t.chan c).halt =
        (if !(t.chan c).run || start b inp c then false else if fire b inp .halt c then true
          else if fire b inp .cont c then false else (s.chan c).halt) ∧
      (t.chan c).phase = (if start b inp c || stop b inp c then false else nphase b inp c)

/-- 46_tick_counting.md R308 (D23): the capture action stores the count before the step, counting or not; without
it CAPTURE keeps the slice. -/
def Obligations.CaptureStores : Prop :=
  ∀ (inp : BitVec 4) (s : State) (c : Channel), isActive s.toBlock c = true →
    Ticked inp s fun t =>
      part (mode s.toBlock) t.captureReg c =
        if fire s.toBlock inp .capture c then cnt s.toBlock c else part (mode s.toBlock) s.captureReg c

/-- 46_tick_counting.md R293, R309, R310, R311 (D17, D24, D44): every bit of STS after a tick. PEAK, ZERO and EVENT of
the active channels are raised by their conditions; every other bit, FIFO_FULL among them, keeps its value. -/
def Obligations.StatusAfterTick : Prop :=
  ∀ (inp : BitVec 4) (s : State),
    Ticked inp s fun t =>
      ∀ n, t.sts.getLsbD n = (s.sts.getLsbD n || [Channel.c0, Channel.c1].any fun c =>
        isActive s.toBlock c &&
          ((n == 3 + 16 * idx c && peak s.toBlock inp c) || (n == 2 + 16 * idx c && zero s.toBlock inp c) ||
            (n == 16 * idx c && fire s.toBlock inp .interrupt c)))

/-- 47_tick_output.md R321 to R326 (D34, D38, D39, D40): the output after a tick. Bits 0, 6 and 9 of OCU_CTRL are
`OCU_OUT_EN`, `OUT_HIGH_SEL` and `OUT_LOW_SEL` (10_state.md R44); bits 1:0 of WFG_CTRL are `TGL_SEL` (R47). -/
def Obligations.OutputAfterTick : Prop :=
  ∀ (inp : BitVec 4) (s : State) (c : Channel), isActive s.toBlock c = true →
    Ticked inp s fun t =>
      let o := (s.chan c).out
      let high := bit s.ocuCtrl 6 c
      let low := bit s.ocuCtrl 9 c
      let compared :=
        if cmpeq s.toBlock inp c then
          if field s.wfgCtrl 0 2 c = 0 then o else if field s.wfgCtrl 0 2 c = 1 then true
          else if field s.wfgCtrl 0 2 c = 2 then false else !o
        else o
      let bounded :=
        if boundary s.toBlock inp c then
          if high && low then !compared else if high then true else if low then false else compared
        else compared
      out t.toBlock c = if bit s.ocuCtrl 0 c then bounded else (o ^^ fire s.toBlock inp .output c)

/-- 47_tick_output.md R328 (D32, D35): the commit of the pending threshold at the period boundary. -/
def Obligations.CommitAtBoundary : Prop :=
  ∀ (inp : BitVec 4) (s : State) (c : Channel), isActive s.toBlock c = true →
    Ticked inp s fun t =>
      t.ocuCompareNxt = s.ocuCompareNxt ∧
      if boundary s.toBlock inp c && bit s.level 7 c && (s.chan c).nxtValid then
        part (mode s.toBlock) t.ocuCompare c = part (mode s.toBlock) s.ocuCompareNxt c ∧
        (t.chan c).nxtValid = false ∧ dmaReq t.toBlock c = bit s.ocuCtrl 4 c
      else
        part (mode s.toBlock) t.ocuCompare c = part (mode s.toBlock) s.ocuCompare c ∧
        (t.chan c).nxtValid = (s.chan c).nxtValid

/-- 46_tick_counting.md R312 (D14): in 32-bit mode the model's tick has channel 0 alone as its active channel, with the
whole words as its count and match value and `MAX = 2^32 - 1`, and so have the words of these statements; a tick leaves channel 1's one-bit elements and its status bits
alone, and switching the mode either way does not clear them. -/
def Obligations.MergedModeFreezesChannel1 : Prop :=
  ∀ s : State,
    (mode s.toBlock = true → activeChannels s.mode32 = [.c0] ∧ maxCount s.mode32 = 0xFFFFFFFF#32 ∧
      s.count .c0 = s.counter ∧ s.matchValue .c0 = s.matchReg) ∧
    (mode s.toBlock = true → maxOf (mode s.toBlock) = 2 ^ 32 - 1 ∧ cnt s.toBlock .c0 = s.counter.toNat ∧
      mat s.toBlock .c0 = s.matchReg.toNat ∧ isActive s.toBlock .c0 = true ∧ isActive s.toBlock .c1 = false) ∧
    (mode s.toBlock = true → ∀ inp, Ticked inp s fun t =>
      t.ch1 = s.ch1 ∧ ∀ n, 16 ≤ n → t.sts.getLsbD n = s.sts.getLsbD n) ∧
    (∃ t, exec (.wrGenCtrlSet 1) s = .next t ∧ mode t.toBlock = true ∧ t.ch1 = s.ch1 ∧ t.sts = s.sts) ∧
    ∃ t, exec (.wrGenCtrlReset 1) s = .next t ∧ mode t.toBlock = false ∧ t.ch1 = s.ch1 ∧ t.sts = s.sts

/-- 45_tick_events.md R260: "The two channels are computed from the same pre-tick state and do not see each other's
results of the same tick", but for the sync-trigger: what a tick does to a channel in 16-bit mode whose
`SYNC_TRIG` is 0 does not depend on the other channel. -/
def Obligations.ChannelsIndependent : Prop :=
  ∀ (inp : BitVec 4) (s s' : State) (c : Channel),
    mode s.toBlock = false → mode s'.toBlock = false → bit s.level 6 c = false →
    Allowed s.toBlock → Allowed s'.toBlock → SameFor c s.toBlock s'.toBlock →
    ∃ t t', exec (.tick inp) s = .next t ∧ exec (.tick inp) s' = .next t' ∧ SameFor c t.toBlock t'.toBlock

/-! ### Steps, encoding and bus errors -/

/-- A step performs the oldest issued operation, over every register map and every `BUS_WHEN_GATED` (00_scope.md R6):
where its word decodes to an instruction and the peripheral clock is on, the step is the meaning of that instruction.
While the clock is off (60_exceptions.md R371) all state is retained and a register access succeeds as `BUS_WHEN_GATED`
says. Where nothing is issued, nothing changes (10_state.md R20; log 3); no operation touches what is issued after it or
the clock. The model's choices: the list of issued operations and its place beside `RST` (log 2, log 15); the clock
field, and that a `TICK` issued while the clock is off changes nothing (log 24); that `SVC` and `RST` are performed
while the clock is off (log 9, DEDUCED, R371 naming register accesses alone), and the refusal of an access that does not
succeed (log 9); that the default step takes the default map (log 7) and lets accesses succeed (log 9); and that a table
word is one number (log 19, DEDUCED) which `withFetchWord` issues with the clock on (log 2, log 24). -/
def Obligations.StepRunsIssued : Prop :=
  (∀ (p : Params) (s : State) (w : CommandWord) (rest : List CommandWord) (i : Instr),
    s.issued = w :: rest → decodeWith p.regMap w = .instr i →
    let s' := { s with issued := rest }
    (s.clockOn = true ∨ i = .svc ∨ i = .rst ∨ (p.busWhenGated = true ∧ ∀ inp, i ≠ .tick inp) →
      stepWith p s = exec i s') ∧
    (s.clockOn = false → (∃ inp, i = .tick inp) → stepWith p s = .next s') ∧
    (s.clockOn = false → p.busWhenGated = false → (∃ r, i.toOp = .rd r) ∨ (∃ r d, i.toOp = .wr r d) →
      stepWith p s = .refused .gatedAccess)) ∧
  (∀ s : State, step s = stepWith ⟨defaultRegMap, true⟩ s) ∧
  (∀ (s : State) (n w : Nat) (i : Instr), decodeTableWord n w = some i →
    step (s.withFetchWord n w) = exec i { s with clockOn := true }) ∧
  (∀ (p : Params) (s : State), s.issued = [] → stepWith p s = .next s) ∧
  ∀ (i : Instr) (s t : State), exec i s = .next t → t.issued = s.issued ∧ t.clockOn = s.clockOn

/-- 60_exceptions.md R351, R352, R353 (D48): an access at a misaligned offset, and else at an offset of no register,
ends with `BusError`, alignment first, the block unchanged; at every other offset it is an instruction, and no
instruction raises one. That the error response is a NEXT state of the machine is the model's choice (log 1, DEDUCED
from R350 to R353; 93_implementation_defined.md U6 names the treatment a fault), and that `resp` carries it too
(log 4); the step is the one over the default parameters (log 7, log 9). -/
def Obligations.BusErrors : Prop :=
  (∀ (s : State) (dir : Dir) (off : Offset) (d : Word) (rest : List CommandWord),
    let w := access off d dir
    if off.toNat % 4 ≠ 0 then
      step { s with issued := w :: rest } = .next { s with issued := rest, resp := .busError .misaligned dir off }
    else if off = 0x03C ∨ 0x0A0 ≤ off.toNat then
      step { s with issued := w :: rest } = .next { s with issued := rest, resp := .busError .unmapped dir off }
    else ∃ i, decode w = .instr i) ∧
  (∀ (i : Instr) (s t : State) (kind : BusErrorKind) (dir : Dir) (off : Offset),
    exec i s = .next t → t.resp ≠ .busError kind dir off) ∧
  BusErrorKind.misaligned.code = 1 ∧ BusErrorKind.unmapped.code = 2

/-- 30_encoding.md R118 (D30): which words are illegal, by their fields as numbers (R111), and that the decoder
answers so. That the step then refuses the word by name, and so leaves the block untouched, is the model's choice
(log 5, DEDUCED from R118 and from 93_implementation_defined.md U7, "refuse at the decoder"). -/
def Obligations.IllegalWordsExactly : Prop :=
  ∀ (s : State) (w : CommandWord) (rest : List CommandWord),
    let kind := w.toNat / 2 ^ 44
    let off := w.toNat / 2 ^ 32 % 2 ^ 12
    let data := w.toNat % 2 ^ 32
    if 5 ≤ kind ∨ (kind = 0 ∧ data ≠ 0) ∨ (kind = 2 ∧ (off ≠ 0 ∨ 16 ≤ data)) ∨
        ((kind = 3 ∨ kind = 4) ∧ (off ≠ 0 ∨ data ≠ 0)) then
      ∃ why, decode w = .illegal why ∧ step { s with issued := w :: rest } = .refused (.illegalWord why)
    else ∀ why, decode w ≠ .illegal why

/-- 30_encoding.md R111, R113, R114: over every register map that is aligned and without a repeated offset, and the
default one is such a map, every instruction is what its encoding decodes to, with every operand. -/
def Obligations.EncodeThenDecode : Prop :=
  (∀ m : RegMap, m.WellFormed → ∀ i : Instr, decodeWith m (encodeWith m i) = .instr i) ∧
  defaultRegMap.WellFormed

/-- 30_encoding.md R111, R118: a word that decodes to an instruction is the encoding of that instruction: every
instruction has one word. -/
def Obligations.DecodeThenEncode : Prop :=
  ∀ (w : CommandWord) (i : Instr), decode w = .instr i → encode i = w

/-- 30_encoding.md R144 (D30): the decoder is the opcode table: mask and match of every row. -/
def Obligations.TableRows : Prop :=
  Reg.all.length = 39 ∧
  (∀ (w : CommandWord) (r : Reg), r ∈ Reg.all ∧
    (decode w = .instr (rdInstr r) ↔
      w &&& 0xFFFFFFFFFFFF#48 = (defaultRegMap r).setWidth 48 <<< 32) ∧
    ((∃ d, decode w = .instr (wrInstr d r)) ↔
      w &&& 0xFFFF00000000#48 = 0x100000000000#48 ||| ((defaultRegMap r).setWidth 48 <<< 32))) ∧
  ∀ w : CommandWord,
    ((∃ inp, decode w = .instr (.tick inp)) ↔ w &&& 0xFFFFFFFFFFF0#48 = 0x200000000000#48) ∧
    (decode w = .instr .svc ↔ w &&& 0xFFFFFFFFFFFF#48 = 0x300000000000#48) ∧
    (decode w = .instr .rst ↔ w &&& 0xFFFFFFFFFFFF#48 = 0x400000000000#48)

/-- 30_encoding.md R111, R113, R114 and the examples or encodings of R151, R171, R173, R218, R243, R250, R260, R341, R342,
R431, R433: a few words written out from the spec decode to the instruction they stand for. -/
def Obligations.ExampleWordsDecode : Prop :=
  decode 0x10000000001C#48 = .instr (.wrGenCtrlSet 0x0000001C#32) ∧
  decode 0x102000050003#48 = .instr (.wrCounter 0x00050003#32) ∧
  decode 0x101800003E80#48 = .instr (.wrMatchReg 0x00003E80#32) ∧
  decode 0x100C00000008#48 = .instr (.wrIntrMask 0x00000008#32) ∧
  decode 0x104000000001#48 = .instr (.wrStartSel 0x00000001#32) ∧
  decode 0x104400000303#48 = .instr (.wrStartAnd 0x00000303#32) ∧
  decode 0x102C00001770#48 = .instr (.wrOcuCompareNxt 0x00001770#32) ∧
  decode 0x003800000000#48 = .instr .rdArbCause ∧
  decode 0x200000000001#48 = .instr (.tick 0b0001#4) ∧
  decode 0x300000000000#48 = .instr .svc ∧
  decode 0x400000000000#48 = .instr .rst

/-! ### Properties of the whole machine -/

/-- 10_state.md R59: the invariants are kept by every step from every state that satisfies them. -/
def Obligations.StepKeepsInvariants : Prop :=
  ∀ s t : State, s.Inv → step s = .next t → t.Inv

/-- 10_state.md R59: the invariants hold after reset. -/
def Obligations.ResetSatisfiesInvariants : Prop := State.reset.Inv

/-- 60_exceptions.md R357 (D47): `irq` is high while a cause is both pending and enabled; only a `TICK`, a write of
OCU_COMPARE_NXT or of INTR_UNMASK makes it rise, only `SVC`, a write of INTR_ACK or INTR_MASK, or `RST` makes it
fall. -/
def Obligations.InterruptLine : Prop :=
  (∀ b : Block, irq b = true ↔ ∃ n ∈ [0, 1, 2, 3, 16, 17, 18, 19],
    b.sts.getLsbD n = true ∧ b.mask.getLsbD n = false) ∧
  (∀ (i : Instr) (s t : State), exec i s = .next t → irq s.toBlock = false → irq t.toBlock = true →
    (∃ inp, i = .tick inp) ∨ (∃ d, i = .wrOcuCompareNxt d) ∨ ∃ d, i = .wrIntrUnmask d) ∧
  ∀ (i : Instr) (s t : State), exec i s = .next t → irq s.toBlock = true → irq t.toBlock = false →
    i = .svc ∨ i = .rst ∨ (∃ d, i = .wrIntrAck d) ∨ ∃ d, i = .wrIntrMask d

/-- 43_ocu_wfg_regs.md R226 (D37): the DMA request outputs; a buffered write drops the request, the commit raises it
again. -/
def Obligations.DmaRequests : Prop :=
  (∀ b : Block, dmaReq b .c0 = (b.ocuCtrl.getLsbD 4 && !b.ch0.nxtValid) ∧
    dmaReq b .c1 = (!mode b && b.ocuCtrl.getLsbD 20 && !b.ch1.nxtValid)) ∧
  (∀ (d : Word) (s : State) (c : Channel), isActive s.toBlock c = true → bit s.level 7 c = true →
    ∃ t, exec (.wrOcuCompareNxt d) s = .next t ∧ dmaReq t.toBlock c = false) ∧
  (∀ (d : Word) (s : State) (c : Channel), bit s.level 7 c = false →
    ∃ t, exec (.wrOcuCompareNxt d) s = .next t ∧ dmaReq t.toBlock c = dmaReq s.toBlock c) ∧
  ∀ (inp : BitVec 4) (s : State) (c : Channel), isActive s.toBlock c = true →
    boundary s.toBlock inp c = true → bit s.level 7 c = true → (s.chan c).nxtValid = true →
    Ticked inp s fun t => dmaReq t.toBlock c = bit s.ocuCtrl 4 c

/-- 10_state.md R39, 60_exceptions.md R355, R360: a status bit is set only by a `TICK` (PEAK, ZERO, EVENT) or by a
write of OCU_COMPARE_NXT (FIFO_FULL), and cleared only by a write of INTR_ACK, by `SVC` or by `RST`. -/
def Obligations.StatusBitsChangedOnlyBy : Prop :=
  ∀ (i : Instr) (s t : State) (n : Nat), exec i s = .next t →
    (s.sts.getLsbD n = false → t.sts.getLsbD n = true →
      (∃ inp, i = .tick inp ∧ n ∈ [0, 2, 3, 16, 18, 19]) ∨ ∃ d, i = .wrOcuCompareNxt d ∧ n ∈ [1, 17]) ∧
    (s.sts.getLsbD n = true → t.sts.getLsbD n = false →
      i = .svc ∨ i = .rst ∨ ∃ d, i = .wrIntrAck d ∧ d.getLsbD n = true)

/-- For each state element of 10_state.md R20 the operations other than `RST` that can change it: the data registers
(R23 to R25), the control word (R26), the compare registers and the pending flag (R31 to R33), the status bits (R39,
bit by bit in `StatusBitsChangedOnlyBy`) and the mask (R36), run state and output (R40 to R43; 47_tick_output.md R327),
the OCU, WFG and ADC-select registers (R44, R47, R48), the event registers (R49) and the input history (R52, R53). -/
def Obligations.OnlyItsWritersChangeIt : Prop :=
  ∀ (i : Instr) (s t : State), exec i s = .next t → i ≠ .rst →
    (t.matchReg ≠ s.matchReg → ∃ d, i = .wrMatchReg d) ∧
    (t.captureReg ≠ s.captureReg → ∃ inp, i = .tick inp) ∧
    (t.counter ≠ s.counter →
      (∃ inp, i = .tick inp) ∨ (∃ d, i = .wrCounter d) ∨ ∃ d, i = .wrGenCtrlSet d) ∧
    (t.ocuCompare ≠ s.ocuCompare →
      (∃ inp, i = .tick inp) ∨ (∃ d, i = .wrOcuCompare d) ∨ ∃ d, i = .wrOcuCompareNxt d) ∧
    (t.ocuCompareNxt ≠ s.ocuCompareNxt → ∃ d, i = .wrOcuCompareNxt d) ∧
    (t.prevIn ≠ s.prevIn ∨ t.riseReg ≠ s.riseReg → ∃ inp, i = .tick inp) ∧
    (t.mask ≠ s.mask → (∃ d, i = .wrIntrMask d) ∨ ∃ d, i = .wrIntrUnmask d) ∧
    (t.level ≠ s.level → (∃ d, i = .wrGenCtrlSet d) ∨ ∃ d, i = .wrGenCtrlReset d) ∧
    (t.sts ≠ s.sts →
      (∃ inp, i = .tick inp) ∨ i = .svc ∨ (∃ d, i = .wrIntrAck d) ∨ ∃ d, i = .wrOcuCompareNxt d) ∧
    (t.ocuCtrl ≠ s.ocuCtrl → ∃ d, i = .wrOcuCtrl d) ∧
    (t.wfgCtrl ≠ s.wfgCtrl → ∃ d, i = .wrWfgCtrl d) ∧
    (t.adcSel ≠ s.adcSel → ∃ d, i = .wrAdcSel d) ∧
    (∀ a,
      (t.evtSel.get a ≠ s.evtSel.get a → ∃ d, i.toOp = .wr (.evt a .sel) d) ∧
      (t.evtAnd.get a ≠ s.evtAnd.get a → ∃ d, i.toOp = .wr (.evt a .and) d) ∧
      (t.evtOr.get a ≠ s.evtOr.get a → ∃ d, i.toOp = .wr (.evt a .or) d)) ∧
    ∀ c,
      (out t.toBlock c ≠ out s.toBlock c → ∃ inp, i = .tick inp) ∧
      ((t.chan c).nxtValid ≠ (s.chan c).nxtValid → (∃ inp, i = .tick inp) ∨ ∃ d, i = .wrOcuCompareNxt d) ∧
      ((t.chan c).run ≠ (s.chan c).run ∨ (t.chan c).halt ≠ (s.chan c).halt ∨
          (t.chan c).phase ≠ (s.chan c).phase →
        (∃ inp, i = .tick inp) ∨ ∃ d, i = .wrGenCtrlSet d)

/-- 20_memory.md R86: writing the same word twice in a row leaves the block as writing it once, for every register
but OCU_COMPARE_NXT. -/
def Obligations.WritesIdempotent : Prop :=
  ∀ (r : Reg) (d : Word) (s : State), r ≠ .ocuCompareNxt →
    ∃ t u, exec (wrInstr d r) s = .next t ∧ exec (wrInstr d r) t = .next u ∧ u.toBlock = t.toBlock

/-- 20_memory.md R94 (D37): no operation sets `FIFO_FULL_c` where OCU_COMPARE_NXT is written only while `dma_req[c]`
is 1. -/
def Obligations.PacedDmaNeverOverruns : Prop :=
  ∀ (i : Instr) (s t : State) (c : Channel), exec i s = .next t → honoursRequest s.toBlock c i.toOp →
    bit t.sts 1 c = true → bit s.sts 1 c = true

/-- 70_reset_and_hazards.md R414 with 45_tick_events.md R261: agents that store no reserved event code and set no
`SYNC_EN` never meet a refusal: any sequence of such operations is performed to its end, ticks included. -/
def Obligations.DisciplineNeverRefused : Prop :=
  ∀ (is : List Instr) (s : State), Allowed s.toBlock → (∀ i ∈ is, disciplined i.toOp = true) →
    ∃ t, runInstrs is s = some t ∧ Allowed t.toBlock

/-- 46_tick_counting.md R294, 70_reset_and_hazards.md R405: a free-running periodic up-counter at or below its match
value has the period `mat + 1`: its count after any ticks, whatever the lines do. -/
def Obligations.UpCounterPeriod : Prop :=
  ∀ (ins : List (BitVec 4)) (s : State) (c : Channel),
    FreeRunning s.toBlock c → per s.toBlock c = true → dir s.toBlock c = 0 ∨ dir s.toBlock c = 1 →
    cnt s.toBlock c ≤ mat s.toBlock c →
    ∃ t, runTicks ins s = some t ∧ (t.chan c).run = true ∧
      cnt t.toBlock c = (cnt s.toBlock c + ins.length) % (mat s.toBlock c + 1)

/-- 46_tick_counting.md R296: a free-running periodic down-counter at or below its match value has the period
`mat + 1`; a step down is `mat` steps up modulo the period. -/
def Obligations.DownCounterPeriod : Prop :=
  ∀ (ins : List (BitVec 4)) (s : State) (c : Channel),
    FreeRunning s.toBlock c → per s.toBlock c = true → dir s.toBlock c = 2 →
    cnt s.toBlock c ≤ mat s.toBlock c →
    ∃ t, runTicks ins s = some t ∧ (t.chan c).run = true ∧
      cnt t.toBlock c = (cnt s.toBlock c + ins.length * mat s.toBlock c) % (mat s.toBlock c + 1)

/-- 46_tick_counting.md R297, R298, 70_reset_and_hazards.md R405: a free-running periodic up-down counter started at
0 with a match value of at least 1 counts a triangle of period `2 * mat`. -/
def Obligations.UpDownCounterTriangle : Prop :=
  ∀ (ins : List (BitVec 4)) (s : State) (c : Channel),
    FreeRunning s.toBlock c → per s.toBlock c = true → dir s.toBlock c = 3 → (s.chan c).phase = false →
    cnt s.toBlock c = 0 → mat s.toBlock c ≠ 0 →
    ∃ t, runTicks ins s = some t ∧ (t.chan c).run = true ∧
      let p := ins.length % (2 * mat s.toBlock c)
      cnt t.toBlock c = if p ≤ mat s.toBlock c then p else 2 * mat s.toBlock c - p

/-- 46_tick_counting.md R295, 70_reset_and_hazards.md R400: an up-counter, or an ascending up-down counter, above its
match value climbs to `MAX` and holds there: no PEAK, no end, no commit, however many ticks pass. -/
def Obligations.UnreachableMatch : Prop :=
  ∀ (ins : List (BitVec 4)) (s : State) (c : Channel),
    FreeRunning s.toBlock c → dir s.toBlock c ≠ 2 → (s.chan c).phase = false →
    mat s.toBlock c < cnt s.toBlock c →
    ∃ t, runTicks ins s = some t ∧ (t.chan c).run = true ∧ bit t.sts 3 c = bit s.sts 3 c ∧
      (t.chan c).nxtValid = (s.chan c).nxtValid ∧
      cnt t.toBlock c = min (cnt s.toBlock c + ins.length) (maxOf (mode s.toBlock))

/-- 46_tick_counting.md R294, R301: a free-running one-shot up-counter at or below its match value runs, one count a
tick, until it holds the match value; it ends its period on the tick that observes that, with the count at 0, and stays
ended. -/
def Obligations.OneShotEnds : Prop :=
  ∀ (ins : List (BitVec 4)) (s : State) (c : Channel),
    FreeRunning s.toBlock c → per s.toBlock c = false → dir s.toBlock c = 0 ∨ dir s.toBlock c = 1 →
    cnt s.toBlock c ≤ mat s.toBlock c →
    ∃ t, runTicks ins s = some t ∧ (t.chan c).halt = false ∧
      if ins.length ≤ mat s.toBlock c - cnt s.toBlock c then
        (t.chan c).run = true ∧ cnt t.toBlock c = cnt s.toBlock c + ins.length
      else (t.chan c).run = false ∧ cnt t.toBlock c = 0

/-- 47_tick_output.md R330: edge-aligned PWM. With `OUT_HIGH_SEL`, low on match and no buffer, the output of a
free-running periodic up-counter is high exactly while the count is at most the threshold `C`, for `C` below the
match value, and always high from there on. -/
def Obligations.EdgeAlignedPwm : Prop :=
  ∀ (ins : List (BitVec 4)) (s : State) (c : Channel),
    FreeRunning s.toBlock c → per s.toBlock c = true → dir s.toBlock c = 0 ∨ dir s.toBlock c = 1 →
    cnt s.toBlock c ≤ mat s.toBlock c → bit s.level 7 c = false →
    bit s.ocuCtrl 0 c = true → bit s.ocuCtrl 5 c = false → bit s.ocuCtrl 6 c = true →
    bit s.ocuCtrl 9 c = false → field s.wfgCtrl 0 2 c = 2 →
    let threshold := part (mode s.toBlock) s.ocuCompare c
    let high := fun (b : Block) => decide (mat s.toBlock c ≤ threshold ∨ cnt b c ≤ threshold)
    out s.toBlock c = high s.toBlock →
    ∃ t, runTicks ins s = some t ∧ out t.toBlock c = high t.toBlock ∧
      cnt t.toBlock c = (cnt s.toBlock c + ins.length) % (mat s.toBlock c + 1)

/-- 60_exceptions.md R359, 70_reset_and_hazards.md R401: one cause per service: as many services as causes are
pending return their codes, each once, in the arbiter's order, and leave no cause pending. -/
def Obligations.ServicesDrainAllCauses : Prop :=
  ∀ s : State, s.sts &&& ~~~0x000F000F#32 = 0 →
    let codes := (arbiterTable.filter fun p => s.sts.getLsbD p.2).map Prod.fst
    ∃ t, serve codes.length s = some (codes, t) ∧ t.toBlock = { s.toBlock with sts := 0 }

/-! ### Driver calls -/

/-- 30_encoding.md R129 (D57): `start_on_software_trigger` run without another agent in between. In 16-bit mode a
counter that does not count down and whose count is above its match value is not started and the block is left
alone; in every other case the call succeeds, and an active counter is started from the count it holds. -/
def Obligations.StartCheckRejectsUnreachable : Prop :=
  ∀ (s : State) (c : Channel),
    if mode s.toBlock = false ∧ dir s.toBlock c ≠ 2 ∧ mat s.toBlock c < cnt s.toBlock c then
      ∃ t, (startOnSoftwareTrigger c).run s = some (.invalidParameter, t) ∧ t.toBlock = s.toBlock
    else
      ∃ t, (startOnSoftwareTrigger c).run s = some (.ok, t) ∧
        (isActive s.toBlock c = true → (t.chan c).run = true ∧ (t.chan c).halt = false ∧
          (t.chan c).phase = false ∧ cnt t.toBlock c = cnt s.toBlock c)

/-- 41_counter_data_regs.md R178 with 30_encoding.md R135, R136, R137: in 16-bit mode the match and the initial count
of a counter round-trip for every value up to 65535, and a value above it is rejected without an operation. -/
def Obligations.CountRoundTrip : Prop :=
  ∀ (s : State) (c : Channel) (v other : Word),
    (v.toNat ≤ 65535 → other.toNat ≤ 65535 →
      ∃ t u x,
        (setMatchCount .bits16 c v).run s = some (.ok, t) ∧ part false t.matchReg c = v.toNat ∧
        (setInitialCount .bits16 (if c = .c0 then v else other) (if c = .c0 then other else v)).run t =
          some (.ok, u) ∧
        (getCount .bits16 c).run u = some (v, x)) ∧
    (65535 < v.toNat → (setMatchCount .bits16 c v).run s = some (.invalidParameter, s))

end
end

