-- ==== Sys2Proof/Laws/State.lean ====
section
/-! SUPPORT. One lemma per field per named update of the state, so that no later proof unfolds an update. -/

namespace Sys2Proof.Machine

/-! ### `State.answer`, `State.withBlock`, `issueFirst`, `issueLast`, `setClock` -/

@[simp] theorem answer_toBlock (s : State) (r : Response) : (s.answer r).toBlock = s.toBlock := rfl
@[simp] theorem answer_issued (s : State) (r : Response) : (s.answer r).issued = s.issued := rfl
@[simp] theorem answer_resp (s : State) (r : Response) : (s.answer r).resp = r := rfl
@[simp] theorem answer_clockOn (s : State) (r : Response) : (s.answer r).clockOn = s.clockOn := rfl
@[simp] theorem withBlock_toBlock (s : State) (b : Block) : (s.withBlock b).toBlock = b := rfl
@[simp] theorem withBlock_issued (s : State) (b : Block) : (s.withBlock b).issued = s.issued := rfl
@[simp] theorem withBlock_resp (s : State) (b : Block) : (s.withBlock b).resp = s.resp := rfl
@[simp] theorem withBlock_clockOn (s : State) (b : Block) : (s.withBlock b).clockOn = s.clockOn := rfl
@[simp] theorem issueFirst_toBlock (s : State) (w : CommandWord) : (issueFirst s w).toBlock = s.toBlock := rfl
@[simp] theorem issueFirst_issued (s : State) (w : CommandWord) : (issueFirst s w).issued = w :: s.issued := rfl
@[simp] theorem issueFirst_resp (s : State) (w : CommandWord) : (issueFirst s w).resp = s.resp := rfl
@[simp] theorem issueFirst_clockOn (s : State) (w : CommandWord) : (issueFirst s w).clockOn = s.clockOn := rfl
@[simp] theorem issueLast_toBlock (s : State) (w : CommandWord) : (issueLast s w).toBlock = s.toBlock := rfl
@[simp] theorem issueLast_issued (s : State) (w : CommandWord) : (issueLast s w).issued = s.issued ++ [w] := rfl
@[simp] theorem issueLast_resp (s : State) (w : CommandWord) : (issueLast s w).resp = s.resp := rfl
@[simp] theorem issueLast_clockOn (s : State) (w : CommandWord) : (issueLast s w).clockOn = s.clockOn := rfl
@[simp] theorem setClock_toBlock (on : Bool) (s : State) : (setClock on s).toBlock = s.toBlock := rfl
@[simp] theorem setClock_issued (on : Bool) (s : State) : (setClock on s).issued = s.issued := rfl
@[simp] theorem setClock_resp (on : Bool) (s : State) : (setClock on s).resp = s.resp := rfl
@[simp] theorem setClock_clockOn (on : Bool) (s : State) : (setClock on s).clockOn = on := rfl
@[simp] theorem setClock_self (s : State) : setClock s.clockOn s = s := rfl
@[simp] theorem withFetchWord_toBlock (s : State) (n w : Nat) : (s.withFetchWord n w).toBlock = s.toBlock := rfl
@[simp] theorem withFetchWord_issued (s : State) (n w : Nat) : (s.withFetchWord n w).issued = tableWord n w :: s.issued := rfl
@[simp] theorem withFetchWord_clockOn (s : State) (n w : Nat) : (s.withFetchWord n w).clockOn = true := rfl

/-! ### `ActionRegs.set` -/

@[simp] theorem actionRegs_get_set_same (r : ActionRegs) (a : Action) (v : Word) : (r.set a v).get a = v := by
  cases a <;> rfl

theorem actionRegs_get_set_other (r : ActionRegs) (a a' : Action) (v : Word) (h : a' ≠ a) :
    (r.set a v).get a' = r.get a' := by
  cases a <;> cases a' <;> first | rfl | exact absurd rfl h

theorem actionRegs_zero_get (a : Action) : ActionRegs.zero.get a = 0 := by cases a <;> rfl

/-! ### `Block.setChan` -/

@[simp] theorem chan_c0 (b : Block) : b.chan .c0 = b.ch0 := rfl
@[simp] theorem chan_c1 (b : Block) : b.chan .c1 = b.ch1 := rfl
@[simp] theorem setChan_level (b : Block) (c : Channel) (x : ChanState) : (b.setChan c x).level = b.level := by
  cases c <;> rfl
@[simp] theorem setChan_sts (b : Block) (c : Channel) (x : ChanState) : (b.setChan c x).sts = b.sts := by
  cases c <;> rfl
@[simp] theorem setChan_mask (b : Block) (c : Channel) (x : ChanState) : (b.setChan c x).mask = b.mask := by
  cases c <;> rfl
@[simp] theorem setChan_matchReg (b : Block) (c : Channel) (x : ChanState) : (b.setChan c x).matchReg = b.matchReg := by
  cases c <;> rfl
@[simp] theorem setChan_counter (b : Block) (c : Channel) (x : ChanState) : (b.setChan c x).counter = b.counter := by
  cases c <;> rfl
@[simp] theorem setChan_captureReg (b : Block) (c : Channel) (x : ChanState) : (b.setChan c x).captureReg = b.captureReg := by
  cases c <;> rfl
@[simp] theorem setChan_ocuCtrl (b : Block) (c : Channel) (x : ChanState) : (b.setChan c x).ocuCtrl = b.ocuCtrl := by
  cases c <;> rfl
@[simp] theorem setChan_ocuCompare (b : Block) (c : Channel) (x : ChanState) : (b.setChan c x).ocuCompare = b.ocuCompare := by
  cases c <;> rfl
@[simp] theorem setChan_ocuCompareNxt (b : Block) (c : Channel) (x : ChanState) : (b.setChan c x).ocuCompareNxt = b.ocuCompareNxt := by
  cases c <;> rfl
@[simp] theorem setChan_wfgCtrl (b : Block) (c : Channel) (x : ChanState) : (b.setChan c x).wfgCtrl = b.wfgCtrl := by
  cases c <;> rfl
@[simp] theorem setChan_adcSel (b : Block) (c : Channel) (x : ChanState) : (b.setChan c x).adcSel = b.adcSel := by
  cases c <;> rfl
@[simp] theorem setChan_evtSel (b : Block) (c : Channel) (x : ChanState) : (b.setChan c x).evtSel = b.evtSel := by
  cases c <;> rfl
@[simp] theorem setChan_evtAnd (b : Block) (c : Channel) (x : ChanState) : (b.setChan c x).evtAnd = b.evtAnd := by
  cases c <;> rfl
@[simp] theorem setChan_evtOr (b : Block) (c : Channel) (x : ChanState) : (b.setChan c x).evtOr = b.evtOr := by
  cases c <;> rfl
@[simp] theorem setChan_prevIn (b : Block) (c : Channel) (x : ChanState) : (b.setChan c x).prevIn = b.prevIn := by
  cases c <;> rfl
@[simp] theorem setChan_riseReg (b : Block) (c : Channel) (x : ChanState) : (b.setChan c x).riseReg = b.riseReg := by
  cases c <;> rfl
@[simp] theorem setChan_ch0 (b : Block) (x : ChanState) : (b.setChan .c0 x).ch0 = x := rfl
@[simp] theorem setChan_ch0_other (b : Block) (x : ChanState) : (b.setChan .c1 x).ch0 = b.ch0 := rfl
@[simp] theorem setChan_ch1 (b : Block) (x : ChanState) : (b.setChan .c1 x).ch1 = x := rfl
@[simp] theorem setChan_ch1_other (b : Block) (x : ChanState) : (b.setChan .c0 x).ch1 = b.ch1 := rfl
@[simp] theorem chan_setChan_same (b : Block) (c : Channel) (x : ChanState) : (b.setChan c x).chan c = x := by
  cases c <;> rfl
@[simp] theorem chan_setChan_other (b : Block) (c : Channel) (x : ChanState) : (b.setChan c x).chan c.other = b.chan c.other := by
  cases c <;> rfl

/-! ### `Block.setLevel`, `Block.startChannel`, `Block.softReset` -/

@[simp] theorem setLevel_level (b : Block) (d : Word) : (b.setLevel d).level = b.level ||| (d &&& levelMask) := rfl
@[simp] theorem setLevel_sts (b : Block) (d : Word) : (b.setLevel d).sts = b.sts := rfl
@[simp] theorem setLevel_mask (b : Block) (d : Word) : (b.setLevel d).mask = b.mask := rfl
@[simp] theorem setLevel_matchReg (b : Block) (d : Word) : (b.setLevel d).matchReg = b.matchReg := rfl
@[simp] theorem setLevel_counter (b : Block) (d : Word) : (b.setLevel d).counter = b.counter := rfl
@[simp] theorem setLevel_captureReg (b : Block) (d : Word) : (b.setLevel d).captureReg = b.captureReg := rfl
@[simp] theorem setLevel_ocuCtrl (b : Block) (d : Word) : (b.setLevel d).ocuCtrl = b.ocuCtrl := rfl
@[simp] theorem setLevel_ocuCompare (b : Block) (d : Word) : (b.setLevel d).ocuCompare = b.ocuCompare := rfl
@[simp] theorem setLevel_ocuCompareNxt (b : Block) (d : Word) : (b.setLevel d).ocuCompareNxt = b.ocuCompareNxt := rfl
@[simp] theorem setLevel_wfgCtrl (b : Block) (d : Word) : (b.setLevel d).wfgCtrl = b.wfgCtrl := rfl
@[simp] theorem setLevel_adcSel (b : Block) (d : Word) : (b.setLevel d).adcSel = b.adcSel := rfl
@[simp] theorem setLevel_evtSel (b : Block) (d : Word) : (b.setLevel d).evtSel = b.evtSel := rfl
@[simp] theorem setLevel_evtAnd (b : Block) (d : Word) : (b.setLevel d).evtAnd = b.evtAnd := rfl
@[simp] theorem setLevel_evtOr (b : Block) (d : Word) : (b.setLevel d).evtOr = b.evtOr := rfl
@[simp] theorem setLevel_ch0 (b : Block) (d : Word) : (b.setLevel d).ch0 = b.ch0 := rfl
@[simp] theorem setLevel_ch1 (b : Block) (d : Word) : (b.setLevel d).ch1 = b.ch1 := rfl
@[simp] theorem setLevel_prevIn (b : Block) (d : Word) : (b.setLevel d).prevIn = b.prevIn := rfl
@[simp] theorem setLevel_riseReg (b : Block) (d : Word) : (b.setLevel d).riseReg = b.riseReg := rfl
@[simp] theorem startChannel_level (b : Block) (c : Channel) : (b.startChannel c).level = b.level := 
  setChan_level b c _
@[simp] theorem startChannel_sts (b : Block) (c : Channel) : (b.startChannel c).sts = b.sts := 
  setChan_sts b c _
@[simp] theorem startChannel_mask (b : Block) (c : Channel) : (b.startChannel c).mask = b.mask := 
  setChan_mask b c _
@[simp] theorem startChannel_matchReg (b : Block) (c : Channel) : (b.startChannel c).matchReg = b.matchReg := 
  setChan_matchReg b c _
@[simp] theorem startChannel_counter (b : Block) (c : Channel) : (b.startChannel c).counter = b.counter := 
  setChan_counter b c _
@[simp] theorem startChannel_captureReg (b : Block) (c : Channel) : (b.startChannel c).captureReg = b.captureReg := 
  setChan_captureReg b c _
@[simp] theorem startChannel_ocuCtrl (b : Block) (c : Channel) : (b.startChannel c).ocuCtrl = b.ocuCtrl := 
  setChan_ocuCtrl b c _
@[simp] theorem startChannel_ocuCompare (b : Block) (c : Channel) : (b.startChannel c).ocuCompare = b.ocuCompare := 
  setChan_ocuCompare b c _
@[simp] theorem startChannel_ocuCompareNxt (b : Block) (c : Channel) : (b.startChannel c).ocuCompareNxt = b.ocuCompareNxt := 
  setChan_ocuCompareNxt b c _
@[simp] theorem startChannel_wfgCtrl (b : Block) (c : Channel) : (b.startChannel c).wfgCtrl = b.wfgCtrl := 
  setChan_wfgCtrl b c _
@[simp] theorem startChannel_adcSel (b : Block) (c : Channel) : (b.startChannel c).adcSel = b.adcSel := 
  setChan_adcSel b c _
@[simp] theorem startChannel_evtSel (b : Block) (c : Channel) : (b.startChannel c).evtSel = b.evtSel := 
  setChan_evtSel b c _
@[simp] theorem startChannel_evtAnd (b : Block) (c : Channel) : (b.startChannel c).evtAnd = b.evtAnd := 
  setChan_evtAnd b c _
@[simp] theorem startChannel_evtOr (b : Block) (c : Channel) : (b.startChannel c).evtOr = b.evtOr := 
  setChan_evtOr b c _
@[simp] theorem startChannel_prevIn (b : Block) (c : Channel) : (b.startChannel c).prevIn = b.prevIn := 
  setChan_prevIn b c _
@[simp] theorem startChannel_riseReg (b : Block) (c : Channel) : (b.startChannel c).riseReg = b.riseReg := 
  setChan_riseReg b c _
@[simp] theorem softReset_level (b : Block) (c : Channel) : (b.softReset c).level = b.level := 
  setChan_level b c _
@[simp] theorem softReset_sts (b : Block) (c : Channel) : (b.softReset c).sts = b.sts := 
  setChan_sts b c _
@[simp] theorem softReset_mask (b : Block) (c : Channel) : (b.softReset c).mask = b.mask := 
  setChan_mask b c _
@[simp] theorem softReset_matchReg (b : Block) (c : Channel) : (b.softReset c).matchReg = b.matchReg := 
  setChan_matchReg b c _
@[simp] theorem softReset_counter (b : Block) (c : Channel) : (b.softReset c).counter = putSlice b.mode32 b.counter c 0 := rfl
@[simp] theorem softReset_captureReg (b : Block) (c : Channel) : (b.softReset c).captureReg = b.captureReg := 
  setChan_captureReg b c _
@[simp] theorem softReset_ocuCtrl (b : Block) (c : Channel) : (b.softReset c).ocuCtrl = b.ocuCtrl := 
  setChan_ocuCtrl b c _
@[simp] theorem softReset_ocuCompare (b : Block) (c : Channel) : (b.softReset c).ocuCompare = b.ocuCompare := 
  setChan_ocuCompare b c _
@[simp] theorem softReset_ocuCompareNxt (b : Block) (c : Channel) : (b.softReset c).ocuCompareNxt = b.ocuCompareNxt := 
  setChan_ocuCompareNxt b c _
@[simp] theorem softReset_wfgCtrl (b : Block) (c : Channel) : (b.softReset c).wfgCtrl = b.wfgCtrl := 
  setChan_wfgCtrl b c _
@[simp] theorem softReset_adcSel (b : Block) (c : Channel) : (b.softReset c).adcSel = b.adcSel := 
  setChan_adcSel b c _
@[simp] theorem softReset_evtSel (b : Block) (c : Channel) : (b.softReset c).evtSel = b.evtSel := 
  setChan_evtSel b c _
@[simp] theorem softReset_evtAnd (b : Block) (c : Channel) : (b.softReset c).evtAnd = b.evtAnd := 
  setChan_evtAnd b c _
@[simp] theorem softReset_evtOr (b : Block) (c : Channel) : (b.softReset c).evtOr = b.evtOr := 
  setChan_evtOr b c _
@[simp] theorem softReset_prevIn (b : Block) (c : Channel) : (b.softReset c).prevIn = b.prevIn := 
  setChan_prevIn b c _
@[simp] theorem softReset_riseReg (b : Block) (c : Channel) : (b.softReset c).riseReg = b.riseReg := 
  setChan_riseReg b c _
@[simp] theorem startChannel_chan_same (b : Block) (c : Channel) : (b.startChannel c).chan c = (b.chan c).started := by
  cases c <;> rfl
@[simp] theorem startChannel_chan_other (b : Block) (c : Channel) : (b.startChannel c).chan c.other = b.chan c.other := by
  cases c <;> rfl
@[simp] theorem softReset_chan_same (b : Block) (c : Channel) : (b.softReset c).chan c = (b.chan c).stopped := by
  cases c <;> rfl
@[simp] theorem softReset_chan_other (b : Block) (c : Channel) : (b.softReset c).chan c.other = b.chan c.other := by
  cases c <;> rfl

/-! ### `Block.writeChannel` -/

@[simp] theorem writeChannel_level (b : Block) (c : Channel) (r : ChannelTick) : (b.writeChannel c r).level = b.level := 
  setChan_level b c _
@[simp] theorem writeChannel_mask (b : Block) (c : Channel) (r : ChannelTick) : (b.writeChannel c r).mask = b.mask := 
  setChan_mask b c _
@[simp] theorem writeChannel_matchReg (b : Block) (c : Channel) (r : ChannelTick) : (b.writeChannel c r).matchReg = b.matchReg := 
  setChan_matchReg b c _
@[simp] theorem writeChannel_ocuCtrl (b : Block) (c : Channel) (r : ChannelTick) : (b.writeChannel c r).ocuCtrl = b.ocuCtrl := 
  setChan_ocuCtrl b c _
@[simp] theorem writeChannel_ocuCompareNxt (b : Block) (c : Channel) (r : ChannelTick) : (b.writeChannel c r).ocuCompareNxt = b.ocuCompareNxt := 
  setChan_ocuCompareNxt b c _
@[simp] theorem writeChannel_wfgCtrl (b : Block) (c : Channel) (r : ChannelTick) : (b.writeChannel c r).wfgCtrl = b.wfgCtrl := 
  setChan_wfgCtrl b c _
@[simp] theorem writeChannel_adcSel (b : Block) (c : Channel) (r : ChannelTick) : (b.writeChannel c r).adcSel = b.adcSel := 
  setChan_adcSel b c _
@[simp] theorem writeChannel_evtSel (b : Block) (c : Channel) (r : ChannelTick) : (b.writeChannel c r).evtSel = b.evtSel := 
  setChan_evtSel b c _
@[simp] theorem writeChannel_evtAnd (b : Block) (c : Channel) (r : ChannelTick) : (b.writeChannel c r).evtAnd = b.evtAnd := 
  setChan_evtAnd b c _
@[simp] theorem writeChannel_evtOr (b : Block) (c : Channel) (r : ChannelTick) : (b.writeChannel c r).evtOr = b.evtOr := 
  setChan_evtOr b c _
@[simp] theorem writeChannel_prevIn (b : Block) (c : Channel) (r : ChannelTick) : (b.writeChannel c r).prevIn = b.prevIn := 
  setChan_prevIn b c _
@[simp] theorem writeChannel_riseReg (b : Block) (c : Channel) (r : ChannelTick) : (b.writeChannel c r).riseReg = b.riseReg := 
  setChan_riseReg b c _
@[simp] theorem writeChannel_counter (b : Block) (c : Channel) (r : ChannelTick) : (b.writeChannel c r).counter = putSlice b.mode32 b.counter c r.count := rfl
@[simp] theorem writeChannel_sts (b : Block) (c : Channel) (r : ChannelTick) : (b.writeChannel c r).sts =
    raiseCause r.event .event c (raiseCause r.zero .zero c (raiseCause r.peak .peak c b.sts)) := rfl
@[simp] theorem writeChannel_captureReg (b : Block) (c : Channel) (r : ChannelTick) : (b.writeChannel c r).captureReg =
    match r.captured with
    | none => b.captureReg
    | some v => putSlice b.mode32 b.captureReg c v := rfl
@[simp] theorem writeChannel_ocuCompare (b : Block) (c : Channel) (r : ChannelTick) : (b.writeChannel c r).ocuCompare =
    if r.commit then putSlice b.mode32 b.ocuCompare c (slice b.mode32 b.ocuCompareNxt c) else b.ocuCompare := rfl
@[simp] theorem writeChannel_chan_same (b : Block) (c : Channel) (r : ChannelTick) : (b.writeChannel c r).chan c = r.chan := by
  cases c <;> rfl
@[simp] theorem writeChannel_chan_other (b : Block) (c : Channel) (r : ChannelTick) : (b.writeChannel c r).chan c.other = b.chan c.other := by
  cases c <;> rfl
@[simp] theorem writeChannel_mode32 (b : Block) (c : Channel) (r : ChannelTick) : (b.writeChannel c r).mode32 = b.mode32 := by
  simp [Block.mode32]

end Sys2Proof.Machine
end

