-- ==== Sys2Proof/Laws/Slice.lean ====
section
/-! SUPPORT. The laws of channel slices (00_scope.md R8): what a written slice reads as, and that a write of one
slice leaves the other alone. -/

namespace Sys2Proof.Machine

/-- A value fits a channel when its slice of width `W` is all of it (00_scope.md R8). -/
def Fits (mode32 : Bool) (v : Word) : Prop := slice mode32 v .c0 = v

@[simp] theorem slice_mode32 (w : Word) (c : Channel) : slice true w c = w := rfl

@[simp] theorem putSlice_mode32 (w v : Word) (c : Channel) : putSlice true w c v = v := rfl

theorem slice_putSlice_same (m : Bool) (w v : Word) (c : Channel) :
    slice m (putSlice m w c v) c = slice m v .c0 := by
  cases m <;> cases c <;> simp only [slice, putSlice, Bool.false_eq_true, if_false, if_true] <;>
    · ext i hi
      simp only [BitVec.getElem_setWidth, BitVec.getLsbD_extractLsb', BitVec.getLsbD_append]
      grind

theorem slice_putSlice_other (w v : Word) (c : Channel) :
    slice false (putSlice false w c v) c.other = slice false w c.other := by
  cases c <;> simp only [slice, putSlice, Channel.other, Bool.false_eq_true, if_false] <;>
    · ext i hi
      simp only [BitVec.getElem_setWidth, BitVec.getLsbD_extractLsb', BitVec.getLsbD_append]
      grind

theorem fits_slice (m : Bool) (w : Word) (c : Channel) : Fits m (slice m w c) := by
  cases m <;> cases c <;> simp only [Fits, slice, Bool.false_eq_true, if_false, if_true] <;>
    · ext i hi
      simp only [BitVec.getElem_setWidth, BitVec.getLsbD_extractLsb', BitVec.getLsbD_setWidth]
      grind

theorem slice_putSlice_fits {m : Bool} {v : Word} (h : Fits m v) (w : Word) (c : Channel) :
    slice m (putSlice m w c v) c = v := by
  rw [slice_putSlice_same]; exact h

theorem fits_iff (m : Bool) (v : Word) : Fits m v ↔ v ≤ maxCount m := by
  cases m
  · simp only [Fits, slice, maxCount, Bool.false_eq_true, if_false]
    constructor
    · intro h
      rw [← h]
      have := (v.extractLsb' 0 16).isLt
      simp only [BitVec.le_def, BitVec.toNat_setWidth]
      simp only [BitVec.toNat_ofNat]
      omega
    · intro h
      apply BitVec.eq_of_toNat_eq
      simp only [BitVec.le_def, BitVec.toNat_ofNat] at h
      simp only [BitVec.toNat_setWidth, BitVec.extractLsb'_toNat, Nat.shiftRight_zero]
      omega
  · simp only [Fits, slice_mode32, true_iff, maxCount, if_true, BitVec.le_def, BitVec.toNat_ofNat]
    have := v.isLt
    omega

theorem fits_zero (m : Bool) : Fits m 0 := by cases m <;> rfl

theorem fits_one (m : Bool) : Fits m 1 := by cases m <;> rfl

/-- A count below the largest one still fits after the increment (41_counter_data_regs.md R177). -/
theorem fits_add_one {m : Bool} {v : Word} (h : Fits m v) (hne : v ≠ maxCount m) : Fits m (v + 1) := by
  rw [fits_iff] at *
  cases m <;> simp only [maxCount, Bool.false_eq_true, if_false, if_true] at * <;> bv_omega

/-- A count above 0 still fits after the decrement (41_counter_data_regs.md R177). -/
theorem fits_sub_one {m : Bool} {v : Word} (h : Fits m v) (hne : v ≠ 0) : Fits m (v - 1) := by
  rw [fits_iff] at *
  cases m <;> simp only [maxCount, Bool.false_eq_true, if_false, if_true] at * <;> bv_omega

end Sys2Proof.Machine
end

