-- ==== Sys2Proof/Laws/Tick.lean ====
section
/-! SUPPORT. What a tick can do, field by field, so that no later proof unfolds it (45_tick_events.md R260). -/

namespace Sys2Proof.Machine

/-- Channel `c` is active: it is channel 0, or the mode is 16-bit (00_scope.md R8). -/
theorem mem_activeChannels (m : Bool) (c : Channel) : c ∈ activeChannels m ↔ (c = .c0 ∨ m = false) := by
  cases m <;> cases c <;> decide

/-- A tick in 32-bit mode writes channel 0 alone (46_tick_counting.md R312). -/
theorem tick_mode32 (b : Block) (inp : BitVec 4) (h : b.mode32 = true) :
    b.tick inp = { b.writeChannel .c0 (b.channelTick (b.sample inp) .c0) with
      prevIn := inp, riseReg := inp &&& ~~~b.prevIn } := by
  simp [Block.tick, activeChannels, h, Block.sample]

/-- A tick in 16-bit mode writes channel 0 and channel 1, both from the state before the tick (00_scope.md R11). -/
theorem tick_mode16 (b : Block) (inp : BitVec 4) (h : b.mode32 = false) :
    b.tick inp = { (b.writeChannel .c0 (b.channelTick (b.sample inp) .c0)).writeChannel .c1
        (b.channelTick (b.sample inp) .c1) with
      prevIn := inp, riseReg := inp &&& ~~~b.prevIn } := by
  simp [Block.tick, activeChannels, h, Block.sample]

/-! ### What a tick leaves alone -/
@[simp] theorem tick_level (b : Block) (inp : BitVec 4) : (b.tick inp).level = b.level := by
  cases h : b.mode32 <;> simp [tick_mode32, tick_mode16, h]

@[simp] theorem tick_mask (b : Block) (inp : BitVec 4) : (b.tick inp).mask = b.mask := by
  cases h : b.mode32 <;> simp [tick_mode32, tick_mode16, h]

@[simp] theorem tick_matchReg (b : Block) (inp : BitVec 4) : (b.tick inp).matchReg = b.matchReg := by
  cases h : b.mode32 <;> simp [tick_mode32, tick_mode16, h]

@[simp] theorem tick_ocuCtrl (b : Block) (inp : BitVec 4) : (b.tick inp).ocuCtrl = b.ocuCtrl := by
  cases h : b.mode32 <;> simp [tick_mode32, tick_mode16, h]

@[simp] theorem tick_ocuCompareNxt (b : Block) (inp : BitVec 4) : (b.tick inp).ocuCompareNxt = b.ocuCompareNxt := by
  cases h : b.mode32 <;> simp [tick_mode32, tick_mode16, h]

@[simp] theorem tick_wfgCtrl (b : Block) (inp : BitVec 4) : (b.tick inp).wfgCtrl = b.wfgCtrl := by
  cases h : b.mode32 <;> simp [tick_mode32, tick_mode16, h]

@[simp] theorem tick_adcSel (b : Block) (inp : BitVec 4) : (b.tick inp).adcSel = b.adcSel := by
  cases h : b.mode32 <;> simp [tick_mode32, tick_mode16, h]

@[simp] theorem tick_evtSel (b : Block) (inp : BitVec 4) : (b.tick inp).evtSel = b.evtSel := by
  cases h : b.mode32 <;> simp [tick_mode32, tick_mode16, h]

@[simp] theorem tick_evtAnd (b : Block) (inp : BitVec 4) : (b.tick inp).evtAnd = b.evtAnd := by
  cases h : b.mode32 <;> simp [tick_mode32, tick_mode16, h]

@[simp] theorem tick_evtOr (b : Block) (inp : BitVec 4) : (b.tick inp).evtOr = b.evtOr := by
  cases h : b.mode32 <;> simp [tick_mode32, tick_mode16, h]

/-! ### The input history -/

@[simp] theorem tick_prevIn (b : Block) (inp : BitVec 4) : (b.tick inp).prevIn = inp := rfl

@[simp] theorem tick_riseReg (b : Block) (inp : BitVec 4) : (b.tick inp).riseReg = inp &&& ~~~b.prevIn := rfl

/-! ### The active channels -/

/-- The one-bit elements of an active channel after a tick. -/
theorem tick_chan (b : Block) (inp : BitVec 4) (c : Channel) (hc : c ∈ activeChannels b.mode32) :
    (b.tick inp).chan c = (b.channelTick (b.sample inp) c).chan := by
  cases h : b.mode32
  · rw [tick_mode16 b inp h]
    cases c <;> rfl
  · rw [tick_mode32 b inp h]
    rw [h] at hc
    cases c
    · rfl
    · exact absurd hc (by decide)

/-- In 32-bit mode the one-bit elements of channel 1 do not change (46_tick_counting.md R312). -/
theorem tick_ch1_mode32 (b : Block) (inp : BitVec 4) (h : b.mode32 = true) :
    (b.tick inp).ch1 = b.ch1 := by
  rw [tick_mode32 b inp h]; rfl

/-- The new count of a channel fits it (41_counter_data_regs.md R177: increment and decrement never wrap). -/
theorem fits_countStep (b : Block) (x : Sample) (c : Channel) :
    Fits b.mode32 (b.countStep x c).count := by
  have hcnt : Fits b.mode32 (b.count c) := fits_slice _ _ _
  have hmat : Fits b.mode32 (b.matchValue c) := fits_slice _ _ _
  unfold Block.countStep
  split
  · cases b.direction c with
    | up =>
      simp only [stepCount, stepUp]
      split
      · exact fits_zero _
      · split
        · exact hcnt
        · exact fits_add_one hcnt ‹_›
    | down =>
      simp only [stepCount, stepDown]
      split
      · exact hmat
      · exact fits_sub_one hcnt ‹_›
    | upDown =>
      simp only [stepCount]
      split
      · simp only [stepDescending]
        split
        · split
          · exact fits_one _
          · exact fits_zero _
        · exact fits_sub_one hcnt ‹_›
      · simp only [stepAscending]
        split
        · dsimp only
          split
          · exact fits_zero _
          · exact fits_sub_one hcnt ‹_›
        · split
          · exact hcnt
          · exact fits_add_one hcnt ‹_›
  · exact hcnt

/-- The count of an active channel after a tick is the `ncnt` of 46_tick_counting.md R290. -/
theorem tick_count (b : Block) (inp : BitVec 4) (c : Channel) (hc : c ∈ activeChannels b.mode32) :
    (b.tick inp).count c = (b.countStep (b.sample inp) c).count := by
  have hf := fits_countStep b (b.sample inp) c
  have hm : (b.tick inp).mode32 = b.mode32 := by simp [Block.mode32]
  unfold Block.count
  rw [hm]
  cases h : b.mode32
  · rw [tick_mode16 b inp h]
    rw [h] at hf
    simp only [writeChannel_counter, writeChannel_mode32, h]
    cases c
    · exact (slice_putSlice_other _ _ .c1).trans (slice_putSlice_fits hf _ _)
    · exact slice_putSlice_fits hf _ _
  · rw [tick_mode32 b inp h]
    rw [h] at hc
    cases c
    · simp only [writeChannel_counter, h, putSlice_mode32, slice_mode32, Block.channelTick]
    · exact absurd hc (by decide)

/-- What a tick does, if it answers a next state: it was not refused, it changed the block as `Block.tick`
says and it returned nothing (45_tick_events.md R260). -/
theorem execTick_next {inp : BitVec 4} {s t : State} (h : execTick inp s = .next t) :
    s.tickRefusal = none ∧ t.toBlock = s.tick inp ∧ t.issued = s.issued ∧ t.resp = .ok ∧
      t.clockOn = s.clockOn := by
  unfold execTick at h
  cases hr : s.tickRefusal with
  | some why => rw [hr] at h; cases h
  | none =>
    rw [hr] at h
    cases h
    exact ⟨rfl, rfl, rfl, rfl, rfl⟩

end Sys2Proof.Machine
end

