-- ==== Sys2Proof/Laws/Ops.lean ====
section
/-! SUPPORT. What each shared operation can do, said once: if it answers a next state, then which one. -/

namespace Sys2Proof.Machine

theorem readsAs_next {v : Word} {s t : State} : readsAs v s = .next t ↔ t = s.answer (.data v) := by
  simp [readsAs, eq_comm]

theorem leavesBlock_next {b : Block} {s t : State} :
    leavesBlock b s = .next t ↔ t = (s.withBlock b).answer .ok := by
  simp [leavesBlock, eq_comm]

theorem raiseBusError_next {k : BusErrorKind} {dir : Dir} {off : Offset} {s t : State} :
    raiseBusError k dir off s = .next t ↔ t = s.answer (.busError k dir off) := by
  simp [raiseBusError, eq_comm]

theorem execSvc_next {s t : State} :
    execSvc s = .next t ↔
      t = (s.withBlock { s.toBlock with sts := clearWinner s.sts }).answer (.cause (arbCause s.sts)) := by
  simp [execSvc, eq_comm]

/-! ### Control-set write -/

/-- The soft resets of a control-set write, by mode (40_control_regs.md R153). -/
theorem softResets_eq (b : Block) (d : Word) :
    b.softResets d =
      let b0 := if chanBit d softResetBit .c0 then b.softReset .c0 else b
      if b.mode32 then b0 else if chanBit d softResetBit .c1 then b0.softReset .c1 else b0 := by
  cases h : b.mode32 <;> simp [Block.softResets, activeChannels, h]

/-- The starts of a control-set write, by mode (40_control_regs.md R154). -/
theorem triggers_eq (b : Block) (d : Word) :
    b.triggers d =
      let b0 := if b.triggered d .c0 then b.startChannel .c0 else b
      if b.mode32 then b0 else if b0.triggered d .c1 then b0.startChannel .c1 else b0 := by
  cases h : b.mode32 <;> simp [Block.triggers, activeChannels, h]

@[simp] theorem softResets_level (b : Block) (d : Word) : (b.softResets d).level = b.level := by
  rw [softResets_eq]
  dsimp only
  split <;> split <;> (try split) <;> simp

@[simp] theorem triggers_level (b : Block) (d : Word) : (b.triggers d).level = b.level := by
  rw [triggers_eq]
  dsimp only
  split <;> split <;> (try split) <;> simp

/-! ### Buffered compare write -/

theorem bufferCompare_through (d : Word) (b : Block) (c : Channel) (h : b.bufEn c = false) :
    b.bufferCompare d c =
      { b with ocuCompare := putSlice b.mode32 b.ocuCompare c (slice b.mode32 d c) } := by
  simp [Block.bufferCompare, h]

theorem bufferCompare_pending (d : Word) (b : Block) (c : Channel) (h : b.bufEn c = true) :
    b.bufferCompare d c =
      { b.setChan c { b.chan c with nxtValid := true } with
        sts := raiseCause ((b.chan c).nxtValid && b.dmaEn c) .fifoFull c b.sts } := by
  simp [Block.bufferCompare, h]

/-! ### Status bits -/

/-- The bit number of a cause of a channel (10_state.md R35). -/
def causeIndex (k : Cause) (c : Channel) : Nat := k.bit + c.shift

theorem causeIndex_lt (k : Cause) (c : Channel) : causeIndex k c < 32 := by
  cases k <;> cases c <;> decide

/-- Raising a cause sets its own bit where the condition holds, and no other bit (60_exceptions.md R355). -/
theorem raiseCause_getLsbD (cond : Bool) (k : Cause) (c : Channel) (sts : Word) (i : Nat) :
    (raiseCause cond k c sts).getLsbD i = (sts.getLsbD i || (cond && decide (i = causeIndex k c))) := by
  have := causeIndex_lt k c
  unfold raiseCause causeWord
  cases cond
  · simp
  · simp only [if_true, BitVec.getLsbD_or, BitVec.getLsbD_twoPow, Bool.true_and]
    by_cases h : i = causeIndex k c
    · subst h; simp [causeIndex] at *; omega
    · have h' : ¬ (k.bit + c.shift = i) := fun e => h e.symm
      simp [h, h']

/-- The arbiter's winner is a pending cause (60_exceptions.md R356). -/
theorem arbiterWinner_pending {sts : Word} {k : Cause} {c : Channel} (h : arbiterWinner sts = some (k, c)) :
    pending sts k c = true := by
  have := List.find?_some h
  simpa using this

/-- Without a winner no cause is pending (60_exceptions.md R356). -/
theorem arbiterWinner_none {sts : Word} (h : arbiterWinner sts = none) (k : Cause) (c : Channel) :
    pending sts k c = false := by
  have := List.find?_eq_none.mp h (k, c) (by cases k <;> cases c <;> decide)
  simpa using this

end Sys2Proof.Machine
end

