-- ==== Sys2Proof/Laws/PerInstr.lean ====
section
/-! SUPPORT. Laws of the instruction type, one lemma per constructor: the operation of an instruction gives the
instruction back (30_encoding.md R144: one row per kind and register). -/

namespace Sys2Proof.Laws.ToOpInverse

/-- Reading an instruction as an operation loses nothing of it. -/
def Statement (i : Instr) : Prop := Instr.ofOp i.toOp = i

theorem rdGenCtrlSet : Statement .rdGenCtrlSet := rfl
theorem wrGenCtrlSet (d : Word) : Statement (.wrGenCtrlSet d) := rfl
theorem rdGenCtrlReset : Statement .rdGenCtrlReset := rfl
theorem wrGenCtrlReset (d : Word) : Statement (.wrGenCtrlReset d) := rfl
theorem rdIntrSts : Statement .rdIntrSts := rfl
theorem wrIntrSts (d : Word) : Statement (.wrIntrSts d) := rfl
theorem rdIntrMask : Statement .rdIntrMask := rfl
theorem wrIntrMask (d : Word) : Statement (.wrIntrMask d) := rfl
theorem rdIntrUnmask : Statement .rdIntrUnmask := rfl
theorem wrIntrUnmask (d : Word) : Statement (.wrIntrUnmask d) := rfl
theorem rdIntrAck : Statement .rdIntrAck := rfl
theorem wrIntrAck (d : Word) : Statement (.wrIntrAck d) := rfl
theorem rdMatchReg : Statement .rdMatchReg := rfl
theorem wrMatchReg (d : Word) : Statement (.wrMatchReg d) := rfl
theorem rdCaptureReg : Statement .rdCaptureReg := rfl
theorem wrCaptureReg (d : Word) : Statement (.wrCaptureReg d) := rfl
theorem rdCounter : Statement .rdCounter := rfl
theorem wrCounter (d : Word) : Statement (.wrCounter d) := rfl
theorem rdOcuCtrl : Statement .rdOcuCtrl := rfl
theorem wrOcuCtrl (d : Word) : Statement (.wrOcuCtrl d) := rfl
theorem rdOcuCompare : Statement .rdOcuCompare := rfl
theorem wrOcuCompare (d : Word) : Statement (.wrOcuCompare d) := rfl
theorem rdOcuCompareNxt : Statement .rdOcuCompareNxt := rfl
theorem wrOcuCompareNxt (d : Word) : Statement (.wrOcuCompareNxt d) := rfl
theorem rdWfgCtrl : Statement .rdWfgCtrl := rfl
theorem wrWfgCtrl (d : Word) : Statement (.wrWfgCtrl d) := rfl
theorem rdAdcSel : Statement .rdAdcSel := rfl
theorem wrAdcSel (d : Word) : Statement (.wrAdcSel d) := rfl
theorem rdArbCause : Statement .rdArbCause := rfl
theorem wrArbCause (d : Word) : Statement (.wrArbCause d) := rfl
theorem rdStartSel : Statement .rdStartSel := rfl
theorem wrStartSel (d : Word) : Statement (.wrStartSel d) := rfl
theorem rdStartAnd : Statement .rdStartAnd := rfl
theorem wrStartAnd (d : Word) : Statement (.wrStartAnd d) := rfl
theorem rdStartOr : Statement .rdStartOr := rfl
theorem wrStartOr (d : Word) : Statement (.wrStartOr d) := rfl
theorem rdStopSel : Statement .rdStopSel := rfl
theorem wrStopSel (d : Word) : Statement (.wrStopSel d) := rfl
theorem rdStopAnd : Statement .rdStopAnd := rfl
theorem wrStopAnd (d : Word) : Statement (.wrStopAnd d) := rfl
theorem rdStopOr : Statement .rdStopOr := rfl
theorem wrStopOr (d : Word) : Statement (.wrStopOr d) := rfl
theorem rdContSel : Statement .rdContSel := rfl
theorem wrContSel (d : Word) : Statement (.wrContSel d) := rfl
theorem rdContAnd : Statement .rdContAnd := rfl
theorem wrContAnd (d : Word) : Statement (.wrContAnd d) := rfl
theorem rdContOr : Statement .rdContOr := rfl
theorem wrContOr (d : Word) : Statement (.wrContOr d) := rfl
theorem rdHaltSel : Statement .rdHaltSel := rfl
theorem wrHaltSel (d : Word) : Statement (.wrHaltSel d) := rfl
theorem rdHaltAnd : Statement .rdHaltAnd := rfl
theorem wrHaltAnd (d : Word) : Statement (.wrHaltAnd d) := rfl
theorem rdHaltOr : Statement .rdHaltOr := rfl
theorem wrHaltOr (d : Word) : Statement (.wrHaltOr d) := rfl
theorem rdIncrementSel : Statement .rdIncrementSel := rfl
theorem wrIncrementSel (d : Word) : Statement (.wrIncrementSel d) := rfl
theorem rdIncrementAnd : Statement .rdIncrementAnd := rfl
theorem wrIncrementAnd (d : Word) : Statement (.wrIncrementAnd d) := rfl
theorem rdIncrementOr : Statement .rdIncrementOr := rfl
theorem wrIncrementOr (d : Word) : Statement (.wrIncrementOr d) := rfl
theorem rdCaptureSel : Statement .rdCaptureSel := rfl
theorem wrCaptureSel (d : Word) : Statement (.wrCaptureSel d) := rfl
theorem rdCaptureAnd : Statement .rdCaptureAnd := rfl
theorem wrCaptureAnd (d : Word) : Statement (.wrCaptureAnd d) := rfl
theorem rdCaptureOr : Statement .rdCaptureOr := rfl
theorem wrCaptureOr (d : Word) : Statement (.wrCaptureOr d) := rfl
theorem rdInterruptSel : Statement .rdInterruptSel := rfl
theorem wrInterruptSel (d : Word) : Statement (.wrInterruptSel d) := rfl
theorem rdInterruptAnd : Statement .rdInterruptAnd := rfl
theorem wrInterruptAnd (d : Word) : Statement (.wrInterruptAnd d) := rfl
theorem rdInterruptOr : Statement .rdInterruptOr := rfl
theorem wrInterruptOr (d : Word) : Statement (.wrInterruptOr d) := rfl
theorem rdOutputSel : Statement .rdOutputSel := rfl
theorem wrOutputSel (d : Word) : Statement (.wrOutputSel d) := rfl
theorem rdOutputAnd : Statement .rdOutputAnd := rfl
theorem wrOutputAnd (d : Word) : Statement (.wrOutputAnd d) := rfl
theorem rdOutputOr : Statement .rdOutputOr := rfl
theorem wrOutputOr (d : Word) : Statement (.wrOutputOr d) := rfl
theorem tick (inp : BitVec 4) : Statement (.tick inp) := rfl
theorem svc : Statement .svc := rfl
theorem rst : Statement .rst := rfl

end Sys2Proof.Laws.ToOpInverse
end

