-- ==== Sys2Proof/Machine/Processor.lean ====
section
/-! DEFINITION. The whole system around the block: one host, "one agent whose operation stream switches between
foreground code and the handler", and the other agents, whose operations fall anywhere among the host's (20_memory.md
R96, R102; 60_exceptions.md R361 to R364). The host is software outside the block (00_scope.md R4), so none of this is
in `State`; the step of the block does not use it (log 28). -/

namespace Sys2Proof.Machine

/-- The host: its foreground call, the CT handler while it runs, and whether the interrupt line is enabled at its NVIC
(20_memory.md R102, 60_exceptions.md R362). -/
structure HostProcessor (α β : Type) where
  /-- The driver call in the foreground: what is left of it. -/
  foreground : Prog α
  /-- What is left of the running handler; at most one runs, "non-reentrant" (20_memory.md R102). -/
  handler : Option (Prog β)
  /-- "The host has the line enabled" (60_exceptions.md R362). -/
  nvicOn : Bool

/-- What happens next in the system. Which of these it is, is open (20_memory.md R96). -/
inductive SystemEvent (α β : Type) where
  /-- The foreground begins its next call. -/
  | call (p : Prog α)
  /-- The host applies its next operation: the handler's while one runs, else the foreground's. -/
  | hostOp
  /-- The host enters the handler, whose code this is. -/
  | enterHandler (code : Prog β)
  /-- The handler, at its end, returns to the foreground. -/
  | leaveHandler
  /-- The host turns the line on or off at its NVIC. -/
  | setNvic (on : Bool)
  /-- The platform turns the peripheral clock on or off (60_exceptions.md R371). -/
  | setClock (on : Bool)
  /-- Another agent applies an operation. -/
  | other (a : Agent) (o : Op)

/-- The agents that are not the host's own operation stream: the interrupt front-end's `SVC` is the handler's
(60_exceptions.md R362). -/
def Agent.outsideHost : Agent → Bool
  | .host => false
  | .frontEnd => false
  | .dmaEngine => true
  | .clock => true
  | .platform => true

/-- The agent that an operation of the handler is of: its `SVC` is the interrupt front-end's, its accesses are the
host's (00_scope.md R12, 60_exceptions.md R362). -/
def handlerAgent : Op → Agent
  | .svc => .frontEnd
  | .rd _ => .host
  | .wr _ _ => .host
  | .tick _ => .host
  | .rst => .host

/-- An operation applied by an agent that may issue it: `SVC` by the front-end "only while `irq = 1`"
(00_scope.md R12); none where the agent may not, or the operation is refused. -/
def issueAs (a : Agent) (i : Instr) (s : State) : Option State :=
  if a.mayIssue s.toBlock i.toOp then
    match deliverInstr .default i s with
    | .next s' => some s'
    | _ => none
  else none

/-- A call whose next operation is applied by the agent it is of; none where the call has returned or the operation
cannot be applied. -/
def Prog.perform {α : Type} (agent : Op → Agent) (p : Prog α) (s : State) : Option (Prog α × State) :=
  match p.nextOp with
  | none => none
  | some i => (issueAs (agent i.toOp) i s).bind fun s' => (p.resume s'.resp).map fun p' => (p', s')

/-- The operation the host applies next: the handler's while one runs (20_memory.md R102). -/
def HostProcessor.nextOp {α β : Type} (h : HostProcessor α β) : Option Instr :=
  match h.handler with
  | some q => q.nextOp
  | none => h.foreground.nextOp

/-- The host's next operation applied: while a handler runs it is the handler's, so that "the handler's `SVC` and
accesses are never interleaved with foreground accesses of the same host" (20_memory.md R102). The foreground's
operations are the host's own, which issues no `SVC` (60_exceptions.md R362). -/
def HostProcessor.hostOp {α β : Type} (h : HostProcessor α β) (s : State) : Option (HostProcessor α β × State) :=
  match h.handler with
  | some q => (q.perform handlerAgent s).map fun r => ({ h with handler := some r.1 }, r.2)
  | none => (h.foreground.perform (fun _ => .host) s).map fun r => ({ h with foreground := r.1 }, r.2)

/-- Entering the handler: "only while `irq = 1` and the host has the line enabled", and not while it runs
(60_exceptions.md R362, R363). -/
def HostProcessor.enter {α β : Type} (h : HostProcessor α β) (code : Prog β) (s : State) : Option (HostProcessor α β) :=
  if h.handler.isNone && h.nvicOn && irq s.toBlock then some { h with handler := some code } else none

/-- Whether a handler is at its end: it has returned, or it would issue an `SVC` while `irq` is 0, which the front-end
does not (60_exceptions.md R362). DESIGN CHOICE: the spec does not say how such a handler goes on; the model lets it
return, or wait until `irq` is 1 (log 28). -/
def Prog.atEnd {β : Type} (b : Block) : Prog β → Bool
  | .ret _ => true
  | .svc _ => !irq b
  | .rd _ _ => false
  | .wr _ _ _ => false

/-- Leaving the handler, which "runs to completion" (20_memory.md R102). -/
def HostProcessor.leave {α β : Type} (h : HostProcessor α β) (s : State) : Option (HostProcessor α β) :=
  match h.handler with
  | some q => if q.atEnd s.toBlock then some { h with handler := none } else none
  | none => none

/-- The foreground's next call, where the last one has returned and no handler runs. -/
def HostProcessor.beginCall {α β : Type} (h : HostProcessor α β) (p : Prog α) : Option (HostProcessor α β) :=
  match h.handler, h.foreground with
  | none, .ret _ => some { h with foreground := p }
  | _, _ => none

/-- An operation of another agent than the host. -/
def otherOp (a : Agent) (o : Op) (s : State) : Option State :=
  if a.outsideHost then issueAs a (.ofOp o) s else none

/-- The system after one event, if the event can happen: "`TICK`s and DMA writes may fall anywhere" among the host's
operations (20_memory.md R102). -/
def systemStep {α β : Type} (x : HostProcessor α β × State) : SystemEvent α β → Option (HostProcessor α β × State)
  | .call p => (x.1.beginCall p).map fun h => (h, x.2)
  | .hostOp => x.1.hostOp x.2
  | .enterHandler code => (x.1.enter code x.2).map fun h => (h, x.2)
  | .leaveHandler => (x.1.leave x.2).map fun h => (h, x.2)
  | .setNvic on => some ({ x.1 with nvicOn := on }, x.2)
  | .setClock on => some (x.1, setClock on x.2)
  | .other a o => (otherOp a o x.2).map fun s => (x.1, s)

/-- The system after a sequence of events, if each can happen. -/
def systemRun {α β : Type} (x : HostProcessor α β × State) : List (SystemEvent α β) → Option (HostProcessor α β × State)
  | [] => some x
  | e :: es => (systemStep x e).bind fun y => systemRun y es

end Sys2Proof.Machine
end

