-- ==== Sys2Proof/Laws/Processor.lean ====
section
/-! SUPPORT. What an event of the whole system can do to the host: while a handler runs, the foreground stands still
(20_memory.md R102). -/

namespace Sys2Proof.Machine

variable {α β : Type}

/-- What an applied operation is: one that its agent may issue, and the state it is delivered to. -/
theorem issueAs_some {a : Agent} {i : Instr} {s t : State} (h : issueAs a i s = some t) :
    a.mayIssue s.toBlock i.toOp = true ∧ deliverInstr .default i s = .next t := by
  unfold issueAs at h
  split at h
  · rename_i hm
    split at h
    · cases h; exact ⟨hm, by assumption⟩
    · cases h
  · cases h

/-- What a performed call is: its next operation was applied by its agent and its answer taken. -/
theorem perform_some {agent : Op → Agent} {p : Prog α} {s : State} {r : Prog α × State}
    (h : p.perform agent s = some r) :
    ∃ i, p.nextOp = some i ∧ issueAs (agent i.toOp) i s = some r.2 ∧ p.resume r.2.resp = some r.1 := by
  unfold Prog.perform at h
  split at h
  · cases h
  · rename_i i hi
    simp only [Option.bind_eq_some_iff, Option.map_eq_some_iff] at h
    obtain ⟨s', hs, p', hp, rfl⟩ := h
    exact ⟨i, hi, hs, hp⟩

/-- Every `SVC` of the system is the handler's and is applied while `irq = 1` (00_scope.md R12, 60_exceptions.md R362;
93_implementation_defined.md U16): the host applies none from the foreground and none while `irq` is 0. -/
theorem systemStep_svc {x y : HostProcessor α β × State} (h : systemStep x .hostOp = some y)
    (hn : x.1.nextOp = some .svc) : irq x.2.toBlock = true ∧ x.1.handler.isSome = true := by
  simp only [systemStep, HostProcessor.hostOp] at h
  unfold HostProcessor.nextOp at hn
  split at h
  · rename_i q hq
    simp only [hq] at hn
    obtain ⟨r, hr, -⟩ := Option.map_eq_some_iff.mp h
    obtain ⟨i, hi, hs, -⟩ := perform_some hr
    cases hi.symm.trans hn
    exact ⟨(issueAs_some hs).1, by rw [hq]; rfl⟩
  · rename_i hq
    simp only [hq] at hn
    obtain ⟨r, hr, -⟩ := Option.map_eq_some_iff.mp h
    obtain ⟨i, hi, hs, -⟩ := perform_some hr
    cases hi.symm.trans hn
    cases (issueAs_some hs).1

/-- No other agent applies an `SVC` (00_scope.md R12). -/
theorem systemStep_other_svc (x : HostProcessor α β × State) (a : Agent) :
    systemStep x (.other a .svc) = none := by
  cases a <;> rfl

/-- While a handler runs no event moves the foreground, and only its return ends it: no foreground access falls between
two operations of one handler run (20_memory.md R102). -/
theorem systemStep_handler {x y : HostProcessor α β × State} {e : SystemEvent α β} (h : systemStep x e = some y)
    (hh : x.1.handler.isSome = true) :
    y.1.foreground = x.1.foreground ∧ (y.1.handler.isSome = true ∨ e = .leaveHandler) := by
  obtain ⟨q, hq⟩ := Option.isSome_iff_exists.mp hh
  cases e with
  | call p => simp [systemStep, HostProcessor.beginCall, hq] at h
  | hostOp =>
    simp only [systemStep, HostProcessor.hostOp, hq, Option.map_eq_some_iff] at h
    obtain ⟨r, -, rfl⟩ := h
    exact ⟨rfl, .inl rfl⟩
  | enterHandler code => simp [systemStep, HostProcessor.enter, hq] at h
  | leaveHandler =>
    simp only [systemStep, HostProcessor.leave, hq, Option.map_eq_some_iff] at h
    obtain ⟨h', hl, rfl⟩ := h
    split at hl
    · cases hl; exact ⟨rfl, .inr rfl⟩
    · cases hl
  | setNvic on => cases h; exact ⟨rfl, .inl hh⟩
  | setClock on => cases h; exact ⟨rfl, .inl hh⟩
  | other a o =>
    simp only [systemStep, Option.map_eq_some_iff] at h
    obtain ⟨s, -, rfl⟩ := h
    exact ⟨rfl, .inl hh⟩

/-- From its entry to its return a handler runs with the foreground standing still, however long it takes and whatever
the other agents do meanwhile (20_memory.md R102). -/
theorem systemRun_handler {x y : HostProcessor α β × State} {es : List (SystemEvent α β)}
    (h : systemRun x es = some y) (hh : x.1.handler.isSome = true) (hl : ∀ e ∈ es, e ≠ .leaveHandler) :
    y.1.foreground = x.1.foreground ∧ y.1.handler.isSome = true := by
  induction es generalizing x with
  | nil => cases h; exact ⟨rfl, hh⟩
  | cons e es ih =>
    simp only [systemRun, Option.bind_eq_some_iff] at h
    obtain ⟨z, hz, hy⟩ := h
    obtain ⟨hf, hs⟩ := systemStep_handler hz hh
    have hs := hs.resolve_right (hl e (by simp))
    rw [← hf]
    exact ih hy hs fun e' he' => hl e' (by simp [he'])

/-- A handler is entered only while `irq = 1`, the line is enabled and no handler runs (60_exceptions.md R362, R363). -/
theorem systemStep_enter {x y : HostProcessor α β × State} {code : Prog β}
    (h : systemStep x (.enterHandler code) = some y) :
    irq x.2.toBlock = true ∧ x.1.nvicOn = true ∧ x.1.handler = none ∧ y.2 = x.2 := by
  simp only [systemStep, HostProcessor.enter, Option.map_eq_some_iff] at h
  obtain ⟨h', hl, rfl⟩ := h
  split at hl
  · rename_i hc
    simp only [Bool.and_eq_true, Option.isNone_iff_eq_none] at hc
    exact ⟨hc.2, hc.1.2, hc.1.1, rfl⟩
  · cases hl

/-- An operation of another agent leaves the host's streams as they are (20_memory.md R102). -/
theorem systemStep_other {x y : HostProcessor α β × State} {a : Agent} {o : Op}
    (h : systemStep x (.other a o) = some y) : y.1 = x.1 ∧ a.outsideHost = true := by
  simp only [systemStep, otherOp, Option.map_eq_some_iff] at h
  obtain ⟨s, hs, rfl⟩ := h
  split at hs
  · rename_i hc; exact ⟨rfl, hc⟩
  · cases hs

end Sys2Proof.Machine
end

