-- ==== Sys2Proof/Laws/Step.lean ====
section
/-! SUPPORT. What a step can do: the inversion lemma from which every invariant of the step follows, and the
fields of a command word. -/

namespace Sys2Proof

@[simp] theorem make_kind (k : BitVec 4) (o : Offset) (d : Word) : (CommandWord.make k o d).kind = k := by
  simp only [CommandWord.make, CommandWord.kind]
  ext i hi
  simp only [BitVec.getElem_extractLsb', BitVec.getLsbD_append]
  grind

@[simp] theorem make_off (k : BitVec 4) (o : Offset) (d : Word) : (CommandWord.make k o d).off = o := by
  simp only [CommandWord.make, CommandWord.off]
  ext i hi
  simp only [BitVec.getElem_extractLsb', BitVec.getLsbD_append]
  grind

@[simp] theorem make_data (k : BitVec 4) (o : Offset) (d : Word) : (CommandWord.make k o d).data = d := by
  simp only [CommandWord.make, CommandWord.data]
  ext i hi
  simp only [BitVec.getElem_extractLsb', BitVec.getLsbD_append]
  grind

/-- A command word is its three fields (30_encoding.md R111). -/
theorem make_fields (w : CommandWord) : CommandWord.make w.kind w.off w.data = w := by
  simp only [CommandWord.make, CommandWord.kind, CommandWord.off, CommandWord.data]
  ext i hi
  simp only [BitVec.getElem_append, BitVec.getElem_extractLsb']
  grind

end Sys2Proof

namespace Sys2Proof.Machine

/-- Everything an instruction is: a read that answers a value, an operation that leaves a block and answers
nothing, the service, or a tick. -/
theorem exec_cases (i : Instr) (s : State) :
    (∃ v, exec i s = readsAs v s) ∨ (∃ b, exec i s = leavesBlock b s) ∨ i = .svc ∨ ∃ inp, i = .tick inp := by
  cases i <;> first
    | exact .inr (.inr (.inl rfl))
    | exact .inr (.inr (.inr ⟨_, rfl⟩))
    | exact .inl ⟨_, rfl⟩
    | exact .inr (.inl ⟨_, rfl⟩)

theorem takeIssued_none {s : State} : takeIssued s = none ↔ s.issued = [] := by
  unfold takeIssued
  split <;> simp_all

theorem takeIssued_some {s s' : State} {w : CommandWord} :
    takeIssued s = some (w, s') ↔ ∃ rest, s.issued = w :: rest ∧ s' = { s with issued := rest } := by
  unfold takeIssued
  split
  · simp_all
  · simp_all only [Option.some.injEq, Prod.mk.injEq, List.cons.injEq]
    constructor
    · rintro ⟨rfl, rfl⟩; exact ⟨_, ⟨rfl, rfl⟩, rfl⟩
    · rintro ⟨r, ⟨rfl, rfl⟩, rfl⟩; exact ⟨rfl, rfl⟩

@[simp] theorem takeIssued_issueFirst (s : State) (w : CommandWord) :
    takeIssued (issueFirst s w) = some (w, s) := rfl

/-- While the clock is on every instruction reaches the block (60_exceptions.md R371). -/
theorem deliverInstr_clockOn {p : Params} {i : Instr} {s : State} (h : s.clockOn = true) :
    deliverInstr p i s = exec i s := by
  unfold deliverInstr
  split <;> simp [viaBus, accessSucceeds, h]

/-- Over a parameter by which accesses succeed while the clock is off, every instruction but a tick reaches the
block. -/
theorem deliverInstr_busWhenGated {p : Params} {i : Instr} {s : State} (h : p.busWhenGated = true)
    (ht : ∀ inp, i ≠ .tick inp) : deliverInstr p i s = exec i s := by
  cases i <;> simp_all [deliverInstr, Instr.toOp, viaBus, accessSucceeds]

/-- Everything a delivered instruction can answer as a next state: its meaning, or a tick that the gated clock does
not supply. -/
theorem deliverInstr_next {p : Params} {i : Instr} {s t : State} (h : deliverInstr p i s = .next t) :
    exec i s = .next t ∨ (∃ inp, i = .tick inp) ∧ s.clockOn = false ∧ t = s := by
  cases hc : s.clockOn with
  | true => exact .inl (deliverInstr_clockOn hc ▸ h)
  | false =>
    cases i <;>
      simp only [deliverInstr, Instr.toOp, viaBus, accessSucceeds, hc, Bool.false_or, Bool.false_eq_true,
        if_false, Host.Outcome.next.injEq] at h <;>
      first
        | exact .inr ⟨⟨_, rfl⟩, rfl, h.symm⟩
        | exact .inl h
        | (split at h <;> first | exact .inl h | cases h)

/-- Everything a step can answer as a next state: nothing was issued and nothing changed; the oldest operation
was an instruction and the step is its meaning; it was a tick that the gated clock does not supply; or it was an
access to no register and its agent got the error response. -/
theorem stepWith_next_cases {p : Params} {s t : State} (h : stepWith p s = .next t) :
    (s.issued = [] ∧ t = s) ∨
    (∃ w rest i, s.issued = w :: rest ∧ decodeWith p.regMap w = .instr i ∧
      exec i { s with issued := rest } = .next t) ∨
    (∃ w rest inp, s.issued = w :: rest ∧ decodeWith p.regMap w = .instr (.tick inp) ∧ s.clockOn = false ∧
      t = { s with issued := rest }) ∨
    (∃ w rest k dir off, s.issued = w :: rest ∧ decodeWith p.regMap w = .noRegister k dir off ∧
      t = { s with issued := rest, resp := .busError k dir off }) := by
  unfold stepWith at h
  cases hs : s.issued with
  | nil =>
    rw [takeIssued_none.mpr hs] at h
    cases h
    exact .inl ⟨rfl, rfl⟩
  | cons w rest =>
    rw [takeIssued_some.mpr ⟨rest, hs, rfl⟩] at h
    cases hd : decodeWith p.regMap w with
    | instr i =>
      simp only [hd, deliver] at h
      obtain h | ⟨⟨inp, rfl⟩, hc, rfl⟩ := deliverInstr_next h
      · exact .inr (.inl ⟨w, rest, i, rfl, hd, h⟩)
      · exact .inr (.inr (.inl ⟨w, rest, inp, rfl, hd, hc, rfl⟩))
    | noRegister k dir off =>
      simp only [hd, deliver, viaBus] at h
      split at h
      · exact .inr (.inr (.inr ⟨w, rest, k, dir, off, rfl, hd, raiseBusError_next.mp h⟩))
      · cases h
    | illegal why =>
      simp only [hd, deliver] at h
      cases h

/-- The step over the default parameters, as an instance. -/
theorem step_next_cases {s t : State} (h : step s = .next t) :
    (s.issued = [] ∧ t = s) ∨
    (∃ w rest i, s.issued = w :: rest ∧ decode w = .instr i ∧ exec i { s with issued := rest } = .next t) ∨
    (∃ w rest inp, s.issued = w :: rest ∧ decode w = .instr (.tick inp) ∧ s.clockOn = false ∧
      t = { s with issued := rest }) ∨
    (∃ w rest k dir off, s.issued = w :: rest ∧ decode w = .noRegister k dir off ∧
      t = { s with issued := rest, resp := .busError k dir off }) :=
  stepWith_next_cases h

end Sys2Proof.Machine
end

