-- ==== Sys2Proof/Tests/Slice0.lean ====
section
/-! SUPPORT. Tests of the model: ill-formed terms refused, command words written out from the spec, one step of
each instruction on a small state with the result of the spec's examples and vectors, and for every statement with
hypotheses a state and operands that meet them. -/

namespace Sys2Proof.Tests

open Sys2Proof Sys2Proof.Machine Sys2Proof.Claims

/-! ### Ill-formed terms (30_encoding.md R118, 20_memory.md R82, 10_state.md R21)

The words are V60.2 of 95_test_vectors.md. -/

theorem test_illegal_kind : CommandWord.illegal 0x500000000000#48 = some .reservedKind ∧
    CommandWord.illegal 0xF00000000000#48 = some .reservedKind := by decide
theorem test_illegal_read_data : CommandWord.illegal 0x000000000001#48 = some .readWithData := by decide
theorem test_illegal_tick : CommandWord.illegal 0x200100000000#48 = some .tickFields ∧
    CommandWord.illegal 0x200000000010#48 = some .tickFields := by decide
theorem test_illegal_system : CommandWord.illegal 0x300000000001#48 = some .systemFields ∧
    CommandWord.illegal 0x400400000000#48 = some .systemFields := by decide
theorem test_illegal_decode : decode 0x500000000000#48 = .illegal .reservedKind ∧
    decode 0x000000000001#48 = .illegal .readWithData ∧ decode 0x200100000000#48 = .illegal .tickFields ∧
    decode 0x300000000001#48 = .illegal .systemFields := by decide
theorem test_legal : CommandWord.legal 0x102000050003#48 = true ∧ CommandWord.legal 0x003C00000000#48 = true := by
  decide
theorem test_map_misaligned : ¬RegMap.WellFormed fun r => defaultRegMap r + 2 := by decide
theorem test_map_repeated : ¬RegMap.WellFormed fun _ => 0 := by decide
theorem test_map_default : defaultRegMap.WellFormed := by decide

/-! ### Decoding: every instruction, from a word written out by 30_encoding.md R111, R113 and R114 -/

theorem test_decode_reads : ∀ p ∈ ([
    (0x000000000000#48, .rdGenCtrlSet),
    (0x000400000000#48, .rdGenCtrlReset),
    (0x000800000000#48, .rdIntrSts),
    (0x000C00000000#48, .rdIntrMask),
    (0x001000000000#48, .rdIntrUnmask),
    (0x001400000000#48, .rdIntrAck),
    (0x001800000000#48, .rdMatchReg),
    (0x001C00000000#48, .rdCaptureReg),
    (0x002000000000#48, .rdCounter),
    (0x002400000000#48, .rdOcuCtrl),
    (0x002800000000#48, .rdOcuCompare),
    (0x002C00000000#48, .rdOcuCompareNxt),
    (0x003000000000#48, .rdWfgCtrl),
    (0x003400000000#48, .rdAdcSel),
    (0x003800000000#48, .rdArbCause),
    (0x004000000000#48, .rdStartSel),
    (0x004400000000#48, .rdStartAnd),
    (0x004800000000#48, .rdStartOr),
    (0x004C00000000#48, .rdStopSel),
    (0x005000000000#48, .rdStopAnd),
    (0x005400000000#48, .rdStopOr),
    (0x005800000000#48, .rdContSel),
    (0x005C00000000#48, .rdContAnd),
    (0x006000000000#48, .rdContOr),
    (0x006400000000#48, .rdHaltSel),
    (0x006800000000#48, .rdHaltAnd),
    (0x006C00000000#48, .rdHaltOr),
    (0x007000000000#48, .rdIncrementSel),
    (0x007400000000#48, .rdIncrementAnd),
    (0x007800000000#48, .rdIncrementOr),
    (0x007C00000000#48, .rdCaptureSel),
    (0x008000000000#48, .rdCaptureAnd),
    (0x008400000000#48, .rdCaptureOr),
    (0x008800000000#48, .rdInterruptSel),
    (0x008C00000000#48, .rdInterruptAnd),
    (0x009000000000#48, .rdInterruptOr),
    (0x009400000000#48, .rdOutputSel),
    (0x009800000000#48, .rdOutputAnd),
    (0x009C00000000#48, .rdOutputOr)
    ] : List (CommandWord × Instr)), decode p.1 = .instr p.2 := by decide

theorem test_decode_plain_writes : ∀ p ∈ ([
    (0x10000000001C#48, .wrGenCtrlSet 0x0000001C#32),
    (0x100400200010#48, .wrGenCtrlReset 0x00200010#32),
    (0x100889ABCDEF#48, .wrIntrSts 0x89ABCDEF#32),
    (0x100C00000008#48, .wrIntrMask 0x00000008#32),
    (0x101000000008#48, .wrIntrUnmask 0x00000008#32),
    (0x101400000008#48, .wrIntrAck 0x00000008#32),
    (0x101800003E80#48, .wrMatchReg 0x00003E80#32),
    (0x101C89ABCDEF#48, .wrCaptureReg 0x89ABCDEF#32),
    (0x102000050003#48, .wrCounter 0x00050003#32),
    (0x102400000041#48, .wrOcuCtrl 0x00000041#32),
    (0x102800000FA0#48, .wrOcuCompare 0x00000FA0#32),
    (0x102C00001770#48, .wrOcuCompareNxt 0x00001770#32),
    (0x103000000002#48, .wrWfgCtrl 0x00000002#32),
    (0x1034000000FF#48, .wrAdcSel 0x000000FF#32),
    (0x103889ABCDEF#48, .wrArbCause 0x89ABCDEF#32)
    ] : List (CommandWord × Instr)), decode p.1 = .instr p.2 := by decide

theorem test_decode_event_writes : ∀ p ∈ ([
    (0x104000000001#48, .wrStartSel 0x00000001#32),
    (0x104400000303#48, .wrStartAnd 0x00000303#32),
    (0x104800000C00#48, .wrStartOr 0x00000C00#32),
    (0x104C89ABCDEF#48, .wrStopSel 0x89ABCDEF#32),
    (0x105089ABCDEF#48, .wrStopAnd 0x89ABCDEF#32),
    (0x105489ABCDEF#48, .wrStopOr 0x89ABCDEF#32),
    (0x105889ABCDEF#48, .wrContSel 0x89ABCDEF#32),
    (0x105C89ABCDEF#48, .wrContAnd 0x89ABCDEF#32),
    (0x106089ABCDEF#48, .wrContOr 0x89ABCDEF#32),
    (0x106489ABCDEF#48, .wrHaltSel 0x89ABCDEF#32),
    (0x106889ABCDEF#48, .wrHaltAnd 0x89ABCDEF#32),
    (0x106C89ABCDEF#48, .wrHaltOr 0x89ABCDEF#32),
    (0x107089ABCDEF#48, .wrIncrementSel 0x89ABCDEF#32),
    (0x107489ABCDEF#48, .wrIncrementAnd 0x89ABCDEF#32),
    (0x107889ABCDEF#48, .wrIncrementOr 0x89ABCDEF#32),
    (0x107C89ABCDEF#48, .wrCaptureSel 0x89ABCDEF#32),
    (0x108089ABCDEF#48, .wrCaptureAnd 0x89ABCDEF#32),
    (0x108489ABCDEF#48, .wrCaptureOr 0x89ABCDEF#32),
    (0x108889ABCDEF#48, .wrInterruptSel 0x89ABCDEF#32),
    (0x108C89ABCDEF#48, .wrInterruptAnd 0x89ABCDEF#32),
    (0x109089ABCDEF#48, .wrInterruptOr 0x89ABCDEF#32),
    (0x109489ABCDEF#48, .wrOutputSel 0x89ABCDEF#32),
    (0x109889ABCDEF#48, .wrOutputAnd 0x89ABCDEF#32),
    (0x109C00000901#48, .wrOutputOr 0x00000901#32)
    ] : List (CommandWord × Instr)), decode p.1 = .instr p.2 := by decide

theorem test_decode_system : ∀ p ∈ ([
    (0x200000000005#48, .tick 0b0101#4),
    (0x20000000000F#48, .tick 0b1111#4),
    (0x300000000000#48, .svc),
    (0x400000000000#48, .rst)
    ] : List (CommandWord × Instr)), decode p.1 = .instr p.2 := by decide

theorem test_decode_no_register : decode 0x003C00000000#48 = .noRegister .unmapped .read 0x03C#12 ∧
    decode 0x10A000000001#48 = .noRegister .unmapped .write 0x0A0#12 ∧
    decode 0x0FFC00000000#48 = .noRegister .unmapped .read 0xFFC#12 ∧
    decode 0x000200000000#48 = .noRegister .misaligned .read 0x002#12 ∧
    decode 0x10A100000000#48 = .noRegister .misaligned .write 0x0A1#12 := by decide
theorem test_decode_table_word : decodeTableWord 48 0x101800003E80 = some (.wrMatchReg 16000) ∧
    decodeTableWord 48 0x500000000000 = none := by decide
theorem test_encode : encode (.wrMatchReg 16000) = 0x101800003E80#48 ∧ encode .rdCounter = 0x002000000000#48 ∧
    encode (.tick 5) = 0x200000000005#48 ∧ encode .svc = 0x300000000000#48 ∧ encode .rst = 0x400000000000#48 := by
  decide

/-! ### One step of each instruction -/

/-- The state an instruction leaves, where it answers one. -/
def after (i : Instr) (s : State) : Option State :=
  match exec i s with
  | .next t => some t
  | _ => none

/-- The block an instruction leaves. -/
def left (i : Instr) (s : State) : Option Block := (after i s).map State.toBlock

/-- The value a read answers where it leaves the block as it was. -/
def answered (i : Instr) (s : State) : Option Response :=
  match after i s with
  | some t => if t.toBlock = s.toBlock then some t.resp else none
  | none => none

/-- The reset state with another block. -/
def sys (b : Block) : State := { State.reset with toBlock := b }

/-- A started channel with nothing pending and a low output. -/
def running : ChanState := ⟨true, false, false, false, false⟩

/-- A block with a different word in every register. -/
def full : State := sys {
  level := 0x00A40064#32, sts := 0x00040008#32, mask := 0x00010004#32, matchReg := 0x01020304#32
  counter := 0x05060708#32, captureReg := 0x090A0B0C#32, ocuCtrl := 0x02500041#32, ocuCompare := 0x0D0E0F10#32
  ocuCompareNxt := 0x11121314#32, wfgCtrl := 0x00020001#32, adcSel := 0x000000A5#32
  evtSel := ⟨0x00010002#32, 0x00010003#32, 0x00010004#32, 0x00010005#32,
    0x00010006#32, 0x00010007#32, 0x00010008#32, 0x00010009#32⟩
  evtAnd := ⟨0x01000103#32, 0x01000104#32, 0x01000105#32, 0x01000106#32,
    0x01000107#32, 0x01000108#32, 0x01000109#32, 0x0100010A#32⟩
  evtOr := ⟨0x02000204#32, 0x02000205#32, 0x02000206#32, 0x02000207#32,
    0x02000208#32, 0x02000209#32, 0x0200020A#32, 0x0200020B#32⟩
  ch0 := ⟨true, true, false, true, false⟩, ch1 := ⟨true, false, true, false, true⟩, prevIn := 0b0011#4
  riseReg := 0b0001#4 }

/-- Every read answers its own register and changes nothing (V44.1 to V44.3 for the interrupt views). -/
theorem test_reads : ∀ p ∈ ([
    (.rdGenCtrlSet, 0x00A40064#32),
    (.rdGenCtrlReset, 0x00A40064#32),
    (.rdIntrSts, 0x00040008#32),
    (.rdIntrMask, 0x00010004#32),
    (.rdIntrUnmask, 0x000E000B#32),
    (.rdIntrAck, 0x00000000#32),
    (.rdMatchReg, 0x01020304#32),
    (.rdCaptureReg, 0x090A0B0C#32),
    (.rdCounter, 0x05060708#32),
    (.rdOcuCtrl, 0x02500041#32),
    (.rdOcuCompare, 0x0D0E0F10#32),
    (.rdOcuCompareNxt, 0x11121314#32),
    (.rdWfgCtrl, 0x00020001#32),
    (.rdAdcSel, 0x000000A5#32),
    (.rdArbCause, 0x00000001#32),
    (.rdStartSel, 0x00010002#32),
    (.rdStartAnd, 0x01000103#32),
    (.rdStartOr, 0x02000204#32),
    (.rdStopSel, 0x00010003#32),
    (.rdStopAnd, 0x01000104#32),
    (.rdStopOr, 0x02000205#32),
    (.rdContSel, 0x00010004#32),
    (.rdContAnd, 0x01000105#32),
    (.rdContOr, 0x02000206#32),
    (.rdHaltSel, 0x00010005#32),
    (.rdHaltAnd, 0x01000106#32),
    (.rdHaltOr, 0x02000207#32),
    (.rdIncrementSel, 0x00010006#32),
    (.rdIncrementAnd, 0x01000107#32),
    (.rdIncrementOr, 0x02000208#32),
    (.rdCaptureSel, 0x00010007#32),
    (.rdCaptureAnd, 0x01000108#32),
    (.rdCaptureOr, 0x02000209#32),
    (.rdInterruptSel, 0x00010008#32),
    (.rdInterruptAnd, 0x01000109#32),
    (.rdInterruptOr, 0x0200020A#32),
    (.rdOutputSel, 0x00010009#32),
    (.rdOutputAnd, 0x0100010A#32),
    (.rdOutputOr, 0x0200020B#32)
    ] : List (Instr × Word)), answered p.1 full = some (.data p.2) := by decide

/-- V42.1: every select, AND and OR register keeps its implemented bits, and no other register changes. -/
theorem test_event_writes :
    left (.wrStartSel 0xFFFFFFFF#32) .reset =
      some { Block.reset with evtSel := ⟨0x003F003F#32, 0, 0, 0, 0, 0, 0, 0⟩ } ∧
    left (.wrStopSel 0xFFFFFFFF#32) .reset =
      some { Block.reset with evtSel := ⟨0, 0x003F003F#32, 0, 0, 0, 0, 0, 0⟩ } ∧
    left (.wrContSel 0xFFFFFFFF#32) .reset =
      some { Block.reset with evtSel := ⟨0, 0, 0x003F003F#32, 0, 0, 0, 0, 0⟩ } ∧
    left (.wrHaltSel 0xFFFFFFFF#32) .reset =
      some { Block.reset with evtSel := ⟨0, 0, 0, 0x003F003F#32, 0, 0, 0, 0⟩ } ∧
    left (.wrIncrementSel 0xFFFFFFFF#32) .reset =
      some { Block.reset with evtSel := ⟨0, 0, 0, 0, 0x003F003F#32, 0, 0, 0⟩ } ∧
    left (.wrCaptureSel 0xFFFFFFFF#32) .reset =
      some { Block.reset with evtSel := ⟨0, 0, 0, 0, 0, 0x003F003F#32, 0, 0⟩ } ∧
    left (.wrInterruptSel 0xFFFFFFFF#32) .reset =
      some { Block.reset with evtSel := ⟨0, 0, 0, 0, 0, 0, 0x003F003F#32, 0⟩ } ∧
    left (.wrOutputSel 0xFFFFFFFF#32) .reset =
      some { Block.reset with evtSel := ⟨0, 0, 0, 0, 0, 0, 0, 0x003F003F#32⟩ } ∧
    left (.wrStartAnd 0xFFFFFFFF#32) .reset =
      some { Block.reset with evtAnd := ⟨0x0F3F0F3F#32, 0, 0, 0, 0, 0, 0, 0⟩ } ∧
    left (.wrStopAnd 0xFFFFFFFF#32) .reset =
      some { Block.reset with evtAnd := ⟨0, 0x0F3F0F3F#32, 0, 0, 0, 0, 0, 0⟩ } ∧
    left (.wrContAnd 0xFFFFFFFF#32) .reset =
      some { Block.reset with evtAnd := ⟨0, 0, 0x0F3F0F3F#32, 0, 0, 0, 0, 0⟩ } ∧
    left (.wrHaltAnd 0xFFFFFFFF#32) .reset =
      some { Block.reset with evtAnd := ⟨0, 0, 0, 0x0F3F0F3F#32, 0, 0, 0, 0⟩ } ∧
    left (.wrIncrementAnd 0xFFFFFFFF#32) .reset =
      some { Block.reset with evtAnd := ⟨0, 0, 0, 0, 0x0F3F0F3F#32, 0, 0, 0⟩ } ∧
    left (.wrCaptureAnd 0xFFFFFFFF#32) .reset =
      some { Block.reset with evtAnd := ⟨0, 0, 0, 0, 0, 0x0F3F0F3F#32, 0, 0⟩ } ∧
    left (.wrInterruptAnd 0xFFFFFFFF#32) .reset =
      some { Block.reset with evtAnd := ⟨0, 0, 0, 0, 0, 0, 0x0F3F0F3F#32, 0⟩ } ∧
    left (.wrOutputAnd 0xFFFFFFFF#32) .reset =
      some { Block.reset with evtAnd := ⟨0, 0, 0, 0, 0, 0, 0, 0x0F3F0F3F#32⟩ } ∧
    left (.wrStartOr 0xFFFFFFFF#32) .reset =
      some { Block.reset with evtOr := ⟨0x0F3F0F3F#32, 0, 0, 0, 0, 0, 0, 0⟩ } ∧
    left (.wrStopOr 0xFFFFFFFF#32) .reset =
      some { Block.reset with evtOr := ⟨0, 0x0F3F0F3F#32, 0, 0, 0, 0, 0, 0⟩ } ∧
    left (.wrContOr 0xFFFFFFFF#32) .reset =
      some { Block.reset with evtOr := ⟨0, 0, 0x0F3F0F3F#32, 0, 0, 0, 0, 0⟩ } ∧
    left (.wrHaltOr 0xFFFFFFFF#32) .reset =
      some { Block.reset with evtOr := ⟨0, 0, 0, 0x0F3F0F3F#32, 0, 0, 0, 0⟩ } ∧
    left (.wrIncrementOr 0xFFFFFFFF#32) .reset =
      some { Block.reset with evtOr := ⟨0, 0, 0, 0, 0x0F3F0F3F#32, 0, 0, 0⟩ } ∧
    left (.wrCaptureOr 0xFFFFFFFF#32) .reset =
      some { Block.reset with evtOr := ⟨0, 0, 0, 0, 0, 0x0F3F0F3F#32, 0, 0⟩ } ∧
    left (.wrInterruptOr 0xFFFFFFFF#32) .reset =
      some { Block.reset with evtOr := ⟨0, 0, 0, 0, 0, 0, 0x0F3F0F3F#32, 0⟩ } ∧
    left (.wrOutputOr 0xFFFFFFFF#32) .reset =
      some { Block.reset with evtOr := ⟨0, 0, 0, 0, 0, 0, 0, 0x0F3F0F3F#32⟩ } := by decide

/-- V43.1 and the examples of R171, R173, R175, R214: the plain writes store into their own register. -/
theorem test_plain_writes :
    left (.wrCounter 0x00050003#32) full = some { full.toBlock with counter := 0x00050003#32 } ∧
    left (.wrMatchReg 0x00003E80#32) full = some { full.toBlock with matchReg := 0x00003E80#32 } ∧
    left (.wrCaptureReg 0xFFFFFFFF#32) full = some full.toBlock ∧
    left (.wrOcuCtrl 0xFFFFFFFF#32) full = some { full.toBlock with ocuCtrl := 0x02730273#32 } ∧
    left (.wrOcuCompare 0x00000FA0#32) full = some { full.toBlock with ocuCompare := 0x00000FA0#32 } ∧
    left (.wrWfgCtrl 0xFFFFFFFF#32) full = some { full.toBlock with wfgCtrl := 0x00030003#32 } ∧
    left (.wrAdcSel 0xFFFFFFFF#32) full = some { full.toBlock with adcSel := 0x000000FF#32 } := by decide

/-- V44.2 to V44.7 and the examples of R241 to R249. -/
theorem test_interrupt_writes :
    left (.wrIntrUnmask 0xFFFFFFFF#32) .reset = some { Block.reset with mask := 0 } ∧
    left (.wrIntrMask 0x00010004#32) (sys { Block.reset with mask := 0 }) =
      some { Block.reset with mask := 0x00010004#32 } ∧
    left (.wrIntrAck 0x00000008#32) (sys { Block.reset with sts := 0x0000000C#32 }) =
      some { Block.reset with sts := 0x00000004#32 } ∧
    left (.wrIntrAck 0xFFF0FFF0#32) full = some full.toBlock ∧
    left (.wrIntrSts 0xFFFFFFFF#32) full = some full.toBlock ∧
    left (.wrArbCause 1) full = some full.toBlock := by decide

/-- V40.1: the level bits are set first, so the pulses act on the merged counter. -/
theorem test_control_set_merged :
    left (.wrGenCtrlSet 0xFFFFFFFF#32) (sys { Block.reset with counter := 0x12345678#32 }) =
      some { Block.reset with level := 0x00F400F5#32, ch0 := running } := by decide

/-- V40.3 and V40.4: one soft reset; a trigger forwarded by the other counter's sync-trigger. -/
theorem test_control_set_pulses :
    left (.wrGenCtrlSet 0x00000002#32) (sys { Block.reset with counter := 0x12345678#32, ch1 := running }) =
      some { Block.reset with counter := 0x12340000#32, ch1 := running } ∧
    left (.wrGenCtrlSet 0x00000008#32) (sys { Block.reset with level := 0x00400000#32 }) =
      some { Block.reset with level := 0x00400000#32, ch0 := running, ch1 := running } ∧
    left (.wrGenCtrlSet 0x00000008#32) (sys { Block.reset with level := 0x00000040#32 }) =
      some { Block.reset with level := 0x00000040#32, ch0 := running } := by decide

/-- The example of R156, and V40.7: pulses through the clear register do nothing. -/
theorem test_control_clear :
    left (.wrGenCtrlReset 0x00200010#32) (sys { Block.reset with level := 0x00300014#32 }) =
      some { Block.reset with level := 0x00100004#32 } ∧
    left (.wrGenCtrlReset 0x000A000A#32) full = some full.toBlock := by decide

/-- V43.3: counter 1 written through, counter 0 left pending. -/
theorem test_next_compare_halves :
    left (.wrOcuCompareNxt 0x00050003#32)
        (sys { Block.reset with level := 0x00000080#32, ocuCompare := 0x00010001#32 }) =
      some { Block.reset with level := 0x00000080#32, ocuCompare := 0x00050001#32,
                              ocuCompareNxt := 0x00050003#32, ch0 := ⟨false, false, false, true, false⟩ } := by
  decide

/-- V43.5, its second write: FIFO_FULL_0. -/
theorem test_next_compare_overrun :
    left (.wrOcuCompareNxt 0x00000004#32)
        (sys { Block.reset with level := 0x00000080#32, ocuCtrl := 0x00000010#32,
                                ch0 := ⟨false, false, false, true, false⟩ }) =
      some { Block.reset with level := 0x00000080#32, ocuCtrl := 0x00000010#32, sts := 0x00000002#32,
                              ocuCompareNxt := 0x00000004#32, ch0 := ⟨false, false, false, true, false⟩ } := by
  decide

/-- V48.2: the first service of two pending causes. -/
theorem test_service :
    after .svc (sys { Block.reset with sts := 0x0000000C#32 }) =
      some { sys { Block.reset with sts := 0x00000004#32 } with resp := .cause 1 } := by decide

/-- S10, rows 2 and 8, and V48.1. -/
theorem test_service_order :
    after .svc (sys { Block.reset with sts := 0x000F0007#32 }) =
      some { sys { Block.reset with sts := 0x00070007#32 } with resp := .cause 2 } ∧
    after .svc (sys { Block.reset with sts := 0x00040000#32 }) =
      some { sys Block.reset with resp := .cause 8 } ∧
    after .svc .reset = some { State.reset with resp := .cause 0 } := by decide

/-- V48.3: reset from a state in which a tick is refused. -/
theorem test_reset : left .rst (sys { full.toBlock with ocuCtrl := 0x00000271#32 }) = some Block.reset := by decide

/-- A running block with the given control word, count and match value. -/
def counterAt (level count mat : Word) (x0 x1 : ChanState) : State :=
  sys { Block.reset with level := level, counter := count, matchReg := mat, ch0 := x0, ch1 := x1 }

/-- The count and the status word a tick leaves. -/
def tickOf (inp : BitVec 4) (s : State) : Option (Word × Word) :=
  (left (.tick inp) s).map fun b => (b.counter, b.sts)

/-- One tick of V46.1, V46.4, V46.6, V46.8, V46.20 and V46.21: reload, hold, reload the match, turn, both halves,
carry across bit 16. -/
theorem test_tick_counting :
    tickOf 0 (counterAt 0x14#32 3 3 running .zero) = some (0, 0x00000008#32) ∧
    tickOf 0 (counterAt 0x14#32 0xFFFF#32 5 running .zero) = some (0xFFFF#32, 0) ∧
    tickOf 0 (counterAt 0x24#32 0 3 running .zero) = some (3, 0x00000004#32) ∧
    tickOf 0 (counterAt 0x34#32 3 3 running .zero) = some (2, 0x00000008#32) ∧
    tickOf 0 (counterAt 0x34#32 0 3 ⟨true, false, true, false, false⟩ .zero) = some (1, 0x00000004#32) ∧
    tickOf 0 (counterAt 0x00240014#32 0x00000003#32 0x00020003#32 running running) =
      some (0x00020000#32, 0x00040008#32) ∧
    tickOf 0 (counterAt 0x15#32 0x0000FFFF#32 0x00010001#32 running .zero) = some (0x00010000#32, 0) ∧
    tickOf 0 (counterAt 0x14#32 0x00050000#32 0x00050000#32 .zero running) =
      some (0, 0x00080000#32) := by decide

/-- V42.3, V45.7, V45.9, V46.15, V46.18, V46.19, V47.2, V47.7, V47.9: refusals, history, priorities, capture,
sync-trigger, output and commit, one tick each. -/
theorem test_tick_actions :
    left (.tick 0) (sys { Block.reset with evtSel := { ActionRegs.zero with halt := 0x00270000#32 } }) = none ∧
    left (.tick 0) (sys { Block.reset with ocuCtrl := 0x00020000#32 }) = none ∧
    left (.tick 0b0110#4) (sys { Block.reset with prevIn := 0b0101#4, riseReg := 0b0101#4 }) =
      some { Block.reset with prevIn := 0b0110#4, riseReg := 0b0010#4 } ∧
    (left (.tick 1) (sys { Block.reset with evtSel := { ActionRegs.zero with start := 17, stop := 17 } })).map
      (fun b => b.ch0) = some .zero ∧
    (left (.tick 1) (sys { Block.reset with evtSel := { ActionRegs.zero with start := 17, halt := 17 } })).map
      (fun b => b.ch0) = some running ∧
    (left (.tick 1) (sys { Block.reset with
        counter := 0x00070003#32, matchReg := 9, level := 0x14#32, ch0 := running
        evtSel := { ActionRegs.zero with capture := 0x00010001#32 } })).map
      (fun b => (b.captureReg, b.counter)) = some (0x00070003#32, 0x00070004#32) ∧
    (left (.tick 1) (sys { Block.reset with
        level := 0x00400000#32, evtSel := { ActionRegs.zero with start := 1 } })).map
      (fun b => (b.ch0, b.ch1)) = some (running, running) ∧
    (left (.tick 0) (sys { Block.reset with
        level := 0x14#32, counter := 4, matchReg := 4, ocuCompare := 4, ocuCtrl := 0x41#32, wfgCtrl := 2
        ch0 := running })).map (fun b => out b .c0) = some true ∧
    (left (.tick 1) (sys { Block.reset with evtSel := { ActionRegs.zero with output := 9 } })).map
      (fun b => (out b .c0, out b .c1)) = some (true, false) ∧
    (left (.tick 0) (sys { Block.reset with
        level := 0x94#32, counter := 3, matchReg := 3, ocuCompare := 1, ocuCompareNxt := 2
        ch0 := ⟨true, false, false, true, false⟩ })).map
      (fun b => (b.counter, b.ocuCompare, b.ch0.nxtValid)) = some (0, 2, false) := by decide

/-- Whether the interrupt action of counter 0 fires: select, AND and OR word, `PREV_IN`, `RISE_REG`, sample. -/
def interruptFires (sel andW orW : Word) (prev reg inp : BitVec 4) : Bool :=
  let b := { Block.reset with
    prevIn := prev, riseReg := reg, evtSel := { ActionRegs.zero with interrupt := sel }
    evtAnd := { ActionRegs.zero with interrupt := andW }, evtOr := { ActionRegs.zero with interrupt := orW } }
  fires b (b.sample inp) .interrupt .c0

/-- V45.1: edges and levels of line 0 by code, and the combiner codes with empty combiners. -/
theorem test_fire_codes : interruptFires 0 0 0 0 0 1 = false ∧ interruptFires 1 0 0 0 0 1 = true ∧
    interruptFires 1 0 0 1 0 1 = false ∧ interruptFires 5 0 0 1 0 0 = true ∧ interruptFires 9 0 0 1 0 0 = true ∧
    interruptFires 9 0 0 1 0 1 = false ∧ interruptFires 13 0 0 0 0 0 = true ∧ interruptFires 17 0 0 0 0 1 = true ∧
    interruptFires 21 0 0 0 0 15 = false ∧ interruptFires 22 0 0 0 0 15 = false := by decide

/-- V45.3, V45.4 and V45.6: the combiners, and a registered edge with one. -/
theorem test_fire_combiners : interruptFires 0 0x501#32 0 0 0 1 = true ∧ interruptFires 0 0x501#32 0 0 0 5 = false ∧
    interruptFires 0 0x501#32 0 0 0 11 = true ∧ interruptFires 0 0 0x501#32 0 0 5 = true ∧
    interruptFires 0 0 0x501#32 0 0 4 = false ∧ interruptFires 31 0x202#32 0 1 1 2 = true ∧
    interruptFires 31 0x202#32 0 0 0 1 = false := by decide

/-! ### Steps, ports and driver calls -/

/-- The answer of one step of a state in which only `w` was issued. -/
def stepAnswer (w : CommandWord) : Option Response :=
  match step { full with issued := [w] } with
  | .next t => if t.toBlock = full.toBlock ∧ t.issued = [] then some t.resp else none
  | _ => none

/-- V60.1 and R172. -/
theorem test_step : stepAnswer 0x002000000000#48 = some (.data 0x05060708#32) ∧
    stepAnswer 0x003C00000000#48 = some (.busError .unmapped .read 0x03C#12) ∧
    stepAnswer 0x10A100000000#48 = some (.busError .misaligned .write 0x0A1#12) ∧
    stepAnswer 0x500000000000#48 = none := by decide

theorem test_with_fetch_word :
    (match step (State.reset.withFetchWord 48 0x101800003E80) with
      | .next t => some (t.matchReg, t.issued)
      | _ => none) = some (0x00003E80#32, []) := by decide

/-- The answer of one step over parameters, with the clock off, of a state in which only `w` was issued. -/
def gatedAnswer (p : Params) (w : CommandWord) : Option (Response × Word) :=
  match stepWith p (setClock false { full with issued := [w] }) with
  | .next t => some (t.resp, t.counter)
  | _ => none

/-- R371: the clock off, accesses succeeding by default; a started counter does not count, `RST` is performed. -/
theorem test_clock_off : gatedAnswer .default 0x002000000000#48 = some (.data 0x05060708#32, 0x05060708#32) ∧
    gatedAnswer .default 0x102000000009#48 = some (.ok, 9#32) ∧
    gatedAnswer .default 0x400000000000#48 = some (.ok, 0#32) ∧
    (match stepWith .default (setClock false { counterAt 0x14#32 3 9 running .zero with issued := [0x200000000000#48] }) with
      | .next t => some (t.counter, t.clockOn, t.issued)
      | _ => none) = some (3#32, false, []) ∧
    gatedAnswer ⟨defaultRegMap, false⟩ 0x002000000000#48 = none ∧
    gatedAnswer ⟨defaultRegMap, false⟩ 0x000200000000#48 = none ∧
    gatedAnswer ⟨defaultRegMap, false⟩ 0x400000000000#48 = some (.ok, 0#32) := by decide

/-- R113: a step over another register map. -/
theorem test_other_map :
    gatedAnswer ⟨fun r => defaultRegMap r + 0x400#12, true⟩ 0x042000000000#48 = some (.data 0x05060708#32, 0x05060708#32) ∧
    gatedAnswer ⟨fun r => defaultRegMap r + 0x400#12, true⟩ 0x002000000000#48 =
      some (.busError .unmapped .read 0x020#12, 0x05060708#32) := by decide

/-- The last row of S1, and R126 on a direction left out (log 29). -/
theorem test_set_configuration :
    let k : Option Direction → CounterConfig := fun d => ⟨false, false, false, false, false, d⟩
    ((setConfiguration (some (.bits16, k (some .up), k (some .upDown)))).run .reset).map (fun p => (p.1, p.2.level)) =
      some (.ok, 0x00300010#32) ∧
    (setConfiguration (some (.bits16, k (some .up), k none))).run .reset = some (.invalidParameter, .reset) := by decide

/-- R142, R373 (d) and R81. -/
theorem test_dma_calls :
    (dmaTransfer [7, 8] 1 .accepted).run .reset = some (⟨.own .ok, 2, some (.wrOcuCompareNxt 8)⟩, .reset) ∧
    (dmaTransfer [7, 8] 1 (.failed 33)).run .reset = some (⟨.propagated 33, 1, none⟩, .reset) ∧
    (dmaTransferWith .little [⟨0x70, 0x17, 0, 0⟩] 0 .accepted).run .reset =
      some (⟨.own .ok, 1, some (.wrOcuCompareNxt 0x00001770#32)⟩, .reset) ∧
    (dmaTransferWith .big [⟨0x70, 0x17, 0, 0⟩] 0 .accepted).run .reset =
      some (⟨.own .ok, 1, some (.wrOcuCompareNxt 0x70170000#32)⟩, .reset) ∧
    (dmaTransfer [7, 8] 2 .accepted).run .reset = some (⟨.own .ok, 2, none⟩, .reset) ∧
    (setDmaConfiguration (.failed 33)).run .reset = some (.propagated 33, .reset) := by decide

/-- What a run of the system leaves, with the foreground at a read-modify-write of `START_SEL`, the line enabled and
PEAK of counter 0 pending and unmasked: `START_SEL`, status, and whether a handler runs. -/
def systemAfter (es : List (SystemEvent Status (BitVec 4))) : Option (Word × Word × Bool) :=
  (systemRun (⟨selectActionEvent 0 1 0, none, true⟩, sys { Block.reset with sts := 8, mask := 0 }) es).map
    fun y => (y.2.evtSel.start, y.2.sts, y.1.handler.isSome)

/-- R102, R362, R363: a handler, with a tick in it, runs between the two accesses of the foreground; before its return it
is not entered again, the foreground begins no call, and the host's next operation is not the foreground's; without
`irq` it is not entered; the front-end's `SVC` comes from the handler alone. -/
theorem test_handler :
    systemAfter [.hostOp, .enterHandler isr, .other .clock (.tick 1), .hostOp, .leaveHandler, .hostOp] =
      some (1, 0, false) ∧
    systemAfter [.hostOp, .enterHandler isr, .hostOp] = some (0, 0, true) ∧
    systemAfter [.hostOp, .enterHandler isr, .hostOp, .hostOp] = none ∧
    systemAfter [.enterHandler isr, .leaveHandler] = none ∧
    systemAfter [.enterHandler isr, .enterHandler isr] = none ∧
    systemAfter [.hostOp, .hostOp, .enterHandler isr, .call (.ret .ok)] = none ∧
    systemAfter [.enterHandler isr, .hostOp, .leaveHandler, .enterHandler isr] = none ∧
    systemAfter [.other .frontEnd .svc] = none := by decide

/-- R12, R362 and U16: a handler's second `SVC` with no cause left, and an `SVC` after a reset, are not applied while
`irq` is 0; the handler then only returns. A second `SVC` while `irq` is still 1 is applied. -/
theorem test_svc_only_while_irq :
    let twice : Prog (BitVec 4) := .svc fun _ => .svc .ret
    systemAfter [.enterHandler twice, .hostOp] = some (0, 0, true) ∧
    systemAfter [.enterHandler twice, .hostOp, .hostOp] = none ∧
    systemAfter [.enterHandler twice, .hostOp, .leaveHandler, .hostOp, .hostOp] = some (1, 0, false) ∧
    systemAfter [.enterHandler isr, .other .platform .rst, .hostOp] = none ∧
    systemAfter [.enterHandler isr, .leaveHandler] = none ∧
    (systemRun (⟨Prog.ret (), none, true⟩, sys { Block.reset with sts := 9, mask := 0 })
      [.enterHandler twice, .hostOp, .hostOp, .leaveHandler]).map (fun y => y.2.sts) = some 0 ∧
    (systemRun (⟨.svc fun _ => .ret (), (none : Option (Prog Unit)), true⟩,
      sys { Block.reset with sts := 9, mask := 0 }) [.hostOp]).isNone = true := by decide

/-- R357, V44.5, V44.6 and R250. -/
theorem test_irq : irq { Block.reset with mask := 0x00010004#32, sts := 0x00000005#32 } = true ∧
    irq { Block.reset with mask := 0x00010004#32, sts := 0x00000004#32 } = false ∧
    arbCause 0x00080005#32 = 2 ∧ arbCause 0x00000005#32 = 3 ∧ arbCause 0x00040004#32 = 5 := by decide

/-- S1, S7 and S11: words the driver assembles, and the start check. -/
theorem test_driver :
    ((setOutputAdcPin 15 15).run .reset).map (fun p => (p.1, p.2.adcSel)) = some (.ok, 0xFF#32) ∧
    ((setOutputAdcPin 16 0).run .reset).map (fun p => p.1) = some .invalidParameter ∧
    ((setOutputAdcPin 0 256).run .reset).map (fun p => p.1) = some .invalidParameter ∧
    ((setMatchCount .bits16 .c1 0xABCD#32).run (sys { Block.reset with matchReg := 0x00001234#32 })).map
      (fun p => (p.1, p.2.matchReg)) = some (.ok, 0xABCD1234#32) ∧
    ((startOnSoftwareTrigger .c0).run (counterAt 0x10#32 100 50 .zero .zero)).map
      (fun p => (p.1, p.2.ch0.run)) = some (.invalidParameter, false) ∧
    ((startOnSoftwareTrigger .c0).run (counterAt 0x20#32 100 50 .zero .zero)).map
      (fun p => (p.1, p.2.ch0.run)) = some (.ok, true) := by decide

/-! ### Witnesses: states and operands that meet the hypotheses of the statements -/

theorem witness_ControlWordReads : full.Inv := by decide
theorem witness_OcuReads : full.Inv ∧ full.ocuCtrl ≠ 0 := by decide
theorem witness_InterruptReads : full.Inv ∧ full.sts ≠ 0 := by decide
theorem witness_SelectReads : full.Inv ∧ full.evtSel.output ≠ 0 := by decide
theorem witness_AndReads : full.Inv ∧ full.evtAnd.output ≠ 0 := by decide
theorem witness_OrReads : full.Inv ∧ full.evtOr.output ≠ 0 := by decide
theorem witness_SelectWrites : 39 ≤ field 0x00000027#32 0 6 .c0 ∧ 39 ≤ field 0x003F0000#32 0 6 .c1 ∧
    ¬39 ≤ field 0x00260026#32 0 6 .c0 := by decide
theorem witness_OcuStores : (0x00000002#32).getLsbD 1 = true ∧ (0x00020000#32).getLsbD 17 = true := by decide
theorem witness_ControlClear : full.Inv ∧ full.level ≠ 0 := by decide

/-- The branches of the control-set statement: active and inactive channel, reset and start bits. -/
theorem witness_ControlSet : isActive Block.reset .c1 = true ∧ isActive { Block.reset with level := 1 } .c1 = false ∧
    bit 0x00020000#32 1 .c1 = true ∧ bit 0x00080000#32 3 .c1 = true ∧ bit 0x00400000#32 6 .c1 = true := by decide

theorem witness_NextCompareWrite : bit 0x00800000#32 7 .c1 = true ∧ bit 0x00000080#32 7 .c1 = false ∧
    isActive { Block.reset with level := 0x00800001#32 } .c1 = false := by decide

/-- Both situations of R261 at their limits, and neither. -/
theorem witness_TickRefusedExactly : Allowed full.toBlock ∧ ¬Allowed { Block.reset with ocuCtrl := 2 } ∧
    ¬Allowed { Block.reset with ocuCtrl := 0x00020000#32 } ∧
    ¬Allowed { Block.reset with evtSel := { ActionRegs.zero with output := 39 } } ∧
    ¬Allowed { Block.reset with evtSel := { ActionRegs.zero with start := 0x003F0000#32 } } ∧
    Allowed { Block.reset with evtSel := { ActionRegs.zero with start := 0x00260026#32 } } := by decide

theorem witness_TickFrame : Allowed full.toBlock ∧ (∀ a ∈ Action.all, Unbound Block.reset a .c0 ∧
    Unbound Block.reset a .c1) ∧ Block.reset.ch0.run = false ∧ Block.reset.ch1.halt = false := by decide

theorem witness_ActionsFire : eventCode full.toBlock .output .c0 < 39 ∧
    eventCode { Block.reset with evtSel := { ActionRegs.zero with stop := 38 } } .stop .c0 = 38 := by decide

/-- Counting by the clock and by an event, and standing still, all where R261 allows the tick. -/
theorem witness_CountingTicks : isActive full.toBlock .c1 = true ∧ Allowed full.toBlock ∧
    counting full.toBlock 0 .c0 = false ∧
    counting (counterAt 0x14#32 1 3 running .zero).toBlock 0 .c0 = true ∧
    counting { (counterAt 0x14#32 1 3 running .zero).toBlock with
      evtSel := { ActionRegs.zero with increment := 4 } } 8 .c0 = true := by decide

/-- What the statements of a counting tick assume. -/
abbrev Counts (s : State) (c : Channel) (d : Nat) : Prop :=
  Allowed s.toBlock ∧ isActive s.toBlock c = true ∧ counting s.toBlock 0 c = true ∧ dir s.toBlock c = d

/-- At the match value, at MAX in both modes, and elsewhere; both channels; directions 0 and 1. -/
theorem witness_UpStep : Counts (counterAt 0x10#32 3 3 running .zero) .c0 1 ∧
    Counts (counterAt 0x10#32 0xFFFF#32 3 running .zero) .c0 1 ∧
    Counts (counterAt 0x11#32 0xFFFFFFFF#32 3 running .zero) .c0 1 ∧
    Counts (counterAt 0 0x00020000#32 0x00030000#32 .zero running) .c1 0 := by decide

theorem witness_DownStep : Counts (counterAt 0x20#32 0 3 running .zero) .c0 2 ∧
    Counts (counterAt 0x00200000#32 0x00020000#32 0x00030000#32 .zero running) .c1 2 := by decide

theorem witness_UpDownAscends : Counts (counterAt 0x30#32 3 3 running .zero) .c0 3 ∧
    Counts (counterAt 0x30#32 0 0 running .zero) .c0 3 ∧
    Counts (counterAt 0x30#32 0xFFFF#32 3 running .zero) .c0 3 ∧
    Counts (counterAt 0x00300000#32 0x00020000#32 0x00030000#32 .zero running) .c1 3 := by decide

theorem witness_UpDownDescends : Counts (counterAt 0x34#32 0 3 ⟨true, false, true, false, false⟩ .zero) .c0 3 ∧
    Counts (counterAt 0x34#32 0 0 ⟨true, false, true, false, false⟩ .zero) .c0 3 ∧
    Counts (counterAt 0x00300000#32 0x00020000#32 0 .zero ⟨true, false, true, false, false⟩) .c1 3 := by decide

theorem witness_BoundaryExactly : Allowed (counterAt 0x10#32 3 3 running .zero).toBlock ∧
    isActive (counterAt 0x10#32 3 3 running .zero).toBlock .c0 = true ∧
    boundary (counterAt 0x10#32 3 3 running .zero).toBlock 0 .c0 = true ∧
    boundary (counterAt 0x10#32 2 3 running .zero).toBlock 0 .c0 = false := by decide

/-- A block whose sample 1 fires every action of both channels. -/
def firing : State := sys { full.toBlock with evtSel := ⟨0x00110011#32, 0x00110011#32, 0x00110011#32,
  0x00110011#32, 0x00110011#32, 0x00110011#32, 0x00110011#32, 0x00110011#32⟩ }

theorem witness_RunStateAfterTick : Allowed firing.toBlock ∧ isActive firing.toBlock .c0 = true ∧
    isActive firing.toBlock .c1 = true ∧ ∀ a ∈ Action.all, fire firing.toBlock 1 a .c0 = true := by decide
theorem witness_CaptureStores : Allowed firing.toBlock ∧ isActive firing.toBlock .c1 = true ∧
    fire firing.toBlock 1 .capture .c1 = true ∧ fire Block.reset 1 .capture .c1 = false := by decide
theorem witness_StatusAfterTick : Allowed firing.toBlock ∧ fire firing.toBlock 1 .interrupt .c1 = true := by decide
theorem witness_OutputAfterTick : Allowed full.toBlock ∧ isActive full.toBlock .c0 = true ∧
    bit full.ocuCtrl 0 .c0 = true ∧ bit full.ocuCtrl 0 .c1 = false := by decide

/-- A pending value at a boundary, and a boundary without one. -/
theorem witness_CommitAtBoundary :
    let s := counterAt 0x94#32 3 3 ⟨true, false, false, true, false⟩ .zero
    Allowed s.toBlock ∧ isActive s.toBlock .c0 = true ∧ boundary s.toBlock 0 .c0 = true ∧
      bit s.level 7 .c0 = true ∧ (s.chan .c0).nxtValid = true ∧ (Block.reset.chan .c0).nxtValid = false := by decide

theorem witness_MergedModeFreezesChannel1 : mode (counterAt 1 0 0 running running).toBlock = true ∧
    Allowed (counterAt 1 0 0 running running).toBlock := by decide

/-- Two different blocks that look alike from channel 0. -/
theorem witness_ChannelsIndependent :
    let s := counterAt 0x14#32 0x00050003#32 0x00090009#32 running running
    let s' := counterAt 0x00A40014#32 0x00070003#32 0x00010009#32 running .zero
    mode s.toBlock = false ∧ mode s'.toBlock = false ∧ bit s.level 6 .c0 = false ∧ Allowed s.toBlock ∧
      Allowed s'.toBlock ∧ s ≠ s' ∧ SameFor .c0 s.toBlock s'.toBlock :=
  ⟨by decide, by decide, by decide, by decide, by decide, by decide,
    ⟨by decide, rfl, by decide, by decide, rfl, rfl, rfl, rfl, rfl, fun _ => rfl, fun _ => rfl, fun _ => rfl,
      rfl, rfl, rfl⟩⟩

/-- An instruction issued, with the clock on and off, and a gated access. -/
theorem witness_StepRunsIssued : decodeWith defaultRegMap 0x002000000000#48 = .instr .rdCounter ∧
    decodeWith defaultRegMap 0x200000000001#48 = .instr (.tick 1) ∧ full.clockOn = true ∧
    (setClock false full).clockOn = false ∧ Instr.rdCounter.toOp = .rd .counter ∧
    (⟨defaultRegMap, false⟩ : Params).busWhenGated = false ∧ Params.default.busWhenGated = true ∧
    (∀ inp, Instr.rdCounter ≠ .tick inp) ∧
    decodeTableWord 48 0x200000000001 = some (.tick 1) ∧
    ({ full with issued := [0x002000000000#48] } : State).issued = 0x002000000000#48 :: [] ∧ full.issued = [] ∧
    after .rdCounter full ≠ none := by decide

/-- Offsets at the limits of the branches: misaligned inside and outside the map, the hole, the first and the last
offset past the map, and the last register. -/
theorem witness_BusErrors : (0x002#12).toNat % 4 ≠ 0 ∧ (0x0A2#12).toNat % 4 ≠ 0 ∧ (0x03C#12).toNat % 4 = 0 ∧
    0x0A0 ≤ (0x0A0#12).toNat ∧ (0xFFC#12).toNat % 4 = 0 ∧ ¬0x0A0 ≤ (0x09C#12).toNat := by decide

/-- Words at the limits of each clause. -/
theorem witness_IllegalWordsExactly : (0x500000000000#48).toNat / 2 ^ 44 = 5 ∧
    (0x000000000001#48).toNat % 2 ^ 32 ≠ 0 ∧ 16 ≤ (0x200000000010#48).toNat % 2 ^ 32 ∧
    ¬16 ≤ (0x20000000000F#48).toNat % 2 ^ 32 ∧ (0x400400000000#48).toNat / 2 ^ 32 % 2 ^ 12 ≠ 0 := by decide

theorem witness_EncodeThenDecode : RegMap.WellFormed defaultRegMap ∧
    RegMap.WellFormed fun r => defaultRegMap r + 0x400 := by decide
theorem witness_DecodeThenEncode : decode 0x102C00001770#48 = .instr (.wrOcuCompareNxt 0x1770#32) := by decide

theorem witness_StepKeepsInvariants : full.Inv ∧
    (match step { full with issued := [0x200000000000#48] } with
      | .next t => decide (t.prevIn = 0)
      | _ => false) = true := by decide

/-- A rise by unmasking, by a tick and by an overrun, and a fall by a service. -/
theorem witness_InterruptLine :
    let s := sys { Block.reset with sts := 8 }
    irq s.toBlock = false ∧ (left (.wrIntrUnmask 8) s).map irq = some true ∧
    irq (sys { Block.reset with sts := 8, mask := 0 }).toBlock = true ∧
    (left .svc (sys { Block.reset with sts := 8, mask := 0 })).map irq = some false ∧
    (left (.tick 0) (sys { Block.reset with mask := 0, ch0 := running })).map irq = some true := by decide

theorem witness_DmaRequests :
    let s := counterAt 0x94#32 3 3 ⟨true, false, false, true, false⟩ .zero
    isActive s.toBlock .c0 = true ∧ bit s.level 7 .c0 = true ∧ bit s.level 7 .c1 = false ∧
      boundary s.toBlock 0 .c0 = true ∧ (s.chan .c0).nxtValid = true ∧ Allowed s.toBlock := by decide

theorem witness_StatusBitsChangedOnlyBy :
    (left (.tick 0) (counterAt 0 0 3 running .zero)).map (fun b => b.sts.getLsbD 2) = some true ∧
    full.sts.getLsbD 3 = true ∧ (left .svc full).map (fun b => b.sts.getLsbD 3) = some false := by decide

/-- Every clause at an instruction that changes its element. -/
theorem witness_OnlyItsWritersChangeIt :
    (left .svc full).map (fun b => decide (b.sts ≠ full.sts)) = some true ∧
    (left (.wrOcuCtrl 0) full).map (fun b => decide (b.ocuCtrl ≠ full.ocuCtrl)) = some true ∧
    (left (.wrWfgCtrl 0) full).map (fun b => decide (b.wfgCtrl ≠ full.wfgCtrl)) = some true ∧
    (left (.wrAdcSel 0) full).map (fun b => decide (b.adcSel ≠ full.adcSel)) = some true ∧
    (left (.wrOutputSel 0) full).map (fun b => decide (b.evtSel.output ≠ full.evtSel.output)) = some true ∧
    (left (.wrStartAnd 0) full).map (fun b => decide (b.evtAnd.start ≠ full.evtAnd.start)) = some true ∧
    (left (.wrHaltOr 0) full).map (fun b => decide (b.evtOr.halt ≠ full.evtOr.halt)) = some true ∧
    (left (.tick 1) firing).map (fun b => decide (b ≠ firing.toBlock ∧ b.counter ≠ firing.counter ∧
      b.captureReg ≠ firing.captureReg)) = some true ∧ Instr.tick 1 ≠ .rst := by decide

theorem witness_WritesIdempotent : Reg.genCtrlSet ≠ .ocuCompareNxt ∧ Reg.evt .output .or ≠ .ocuCompareNxt := by
  decide

/-- A write that honours the request, and an instruction that is no such write. -/
theorem witness_PacedDmaNeverOverruns :
    let s := sys { Block.reset with ocuCtrl := 0x10#32, level := 0x80#32, sts := 2 }
    (∃ t, after (.wrOcuCompareNxt 3) s = some t ∧ bit t.sts 1 .c0 = true) ∧
      honoursRequest s.toBlock .c0 (Instr.wrOcuCompareNxt 3).toOp ∧
      honoursRequest s.toBlock .c1 (Instr.tick 0).toOp :=
  ⟨⟨_, rfl, by decide⟩, (fun _ _ => by decide), (fun _ h => by cases h)⟩

theorem witness_DisciplineNeverRefused : Allowed full.toBlock ∧
    ∀ i ∈ [.tick 5, .wrStartSel 0x00260026#32, .wrOcuCtrl 0x02710271#32, .svc, .rst, .tick 1],
      disciplined (Instr.toOp i) = true := by decide

/-- Free-running counters: both channels and both modes, at 0 and at the match value. -/
theorem witness_UpCounterPeriod :
    let s := counterAt 0x15#32 0x00010001#32 0x00010001#32 running .zero
    let u := counterAt 0x00040000#32 0 0x00090000#32 .zero running
    FreeRunning s.toBlock .c0 ∧ per s.toBlock .c0 = true ∧ dir s.toBlock .c0 = 1 ∧
      cnt s.toBlock .c0 ≤ mat s.toBlock .c0 ∧
    FreeRunning u.toBlock .c1 ∧ per u.toBlock .c1 = true ∧ dir u.toBlock .c1 = 0 ∧
      cnt u.toBlock .c1 ≤ mat u.toBlock .c1 := by decide

theorem witness_DownCounterPeriod :
    let s := counterAt 0x00240000#32 0x00030000#32 0x00030000#32 .zero running
    FreeRunning s.toBlock .c1 ∧ per s.toBlock .c1 = true ∧ dir s.toBlock .c1 = 2 ∧
      cnt s.toBlock .c1 ≤ mat s.toBlock .c1 := by decide

theorem witness_UpDownCounterTriangle :
    let s := counterAt 0x34#32 0 1 running .zero
    FreeRunning s.toBlock .c0 ∧ per s.toBlock .c0 = true ∧ dir s.toBlock .c0 = 3 ∧
      (s.chan .c0).phase = false ∧ cnt s.toBlock .c0 = 0 ∧ mat s.toBlock .c0 ≠ 0 := by decide

theorem witness_UnreachableMatch :
    let s := counterAt 0x14#32 0xFFFD#32 5 running .zero
    FreeRunning s.toBlock .c0 ∧ dir s.toBlock .c0 ≠ 2 ∧ (s.chan .c0).phase = false ∧
      mat s.toBlock .c0 < cnt s.toBlock .c0 := by decide

/-- A counter at its match value: with no tick it still runs, and the first tick ends it. -/
theorem witness_OneShotEnds :
    let s := counterAt 0x10#32 3 3 running .zero
    FreeRunning s.toBlock .c0 ∧ per s.toBlock .c0 = false ∧ dir s.toBlock .c0 = 1 ∧
      cnt s.toBlock .c0 ≤ mat s.toBlock .c0 ∧
      ([] : List (BitVec 4)).length ≤ mat s.toBlock .c0 - cnt s.toBlock .c0 ∧
      ¬([0] : List (BitVec 4)).length ≤ mat s.toBlock .c0 - cnt s.toBlock .c0 := by decide

/-- The counter of V47.1 or V47.2 at the observation of its match value. -/
def pwm (threshold : Word) : State :=
  sys { Block.reset with level := 0x14#32, counter := 0, matchReg := 9, ocuCompare := threshold, ocuCtrl := 0x41#32
                         wfgCtrl := 2, ch0 := ⟨true, false, false, false, true⟩ }

/-- A threshold below the match value and one at it. -/
theorem witness_EdgeAlignedPwm : ∀ s ∈ [pwm 3, pwm 9],
    FreeRunning s.toBlock .c0 ∧ per s.toBlock .c0 = true ∧ dir s.toBlock .c0 = 1 ∧
      cnt s.toBlock .c0 ≤ mat s.toBlock .c0 ∧ bit s.level 7 .c0 = false ∧ bit s.ocuCtrl 0 .c0 = true ∧
      bit s.ocuCtrl 5 .c0 = false ∧ bit s.ocuCtrl 6 .c0 = true ∧ bit s.ocuCtrl 9 .c0 = false ∧
      field s.wfgCtrl 0 2 .c0 = 2 ∧
      out s.toBlock .c0 = decide (mat s.toBlock .c0 ≤ part (mode s.toBlock) s.ocuCompare .c0 ∨
        cnt s.toBlock .c0 ≤ part (mode s.toBlock) s.ocuCompare .c0) := by decide

theorem witness_ServicesDrainAllCauses : (0x000F000F#32) &&& ~~~0x000F000F#32 = 0 ∧
    ((arbiterTable.filter fun p => (0x000F000F#32).getLsbD p.2).map Prod.fst).length = 8 := by decide

/-- The rejected case, a count at its match value, and the three ways out of the check. -/
theorem witness_StartCheckRejectsUnreachable :
    let s := counterAt 0x10#32 100 50 .zero .zero
    (mode s.toBlock = false ∧ dir s.toBlock .c0 ≠ 2 ∧ mat s.toBlock .c0 < cnt s.toBlock .c0) ∧
      ¬mat s.toBlock .c1 < cnt s.toBlock .c1 ∧ dir (counterAt 0x20#32 100 50 .zero .zero).toBlock .c0 = 2 ∧
      mode (counterAt 0x11#32 100 50 .zero .zero).toBlock = true := by decide

theorem witness_CountRoundTrip : (65535#32).toNat ≤ 65535 ∧ (0#32).toNat ≤ 65535 ∧ 65535 < (65536#32).toNat := by
  decide

end Sys2Proof.Tests
end

section
/-! SUPPORT. When the output ports are low (10_state.md R58), and the state after reset (10_state.md R57). -/

namespace Sys2Proof.Machine

/-- With no status bit set the interrupt line is low, whatever the mask (60_exceptions.md R357). -/
theorem irq_eq_false_of_sts_eq_zero {b : Block} (h : b.sts = 0#32) : irq b = false := by
  simp [irq, h]

@[simp] theorem pending_zero (k : Cause) (c : Channel) : pending 0#32 k c = false := by
  simp [pending]

/-- With nothing pending the arbiter's scan finds no winner (60_exceptions.md R356). -/
@[simp] theorem arbiterWinner_zero : arbiterWinner 0#32 = none :=
  List.find?_eq_none.mpr fun p _ => by simp

@[simp] theorem arbCause_zero : arbCause 0#32 = 0#4 := by
  simp [arbCause]

/-- A channel whose `DMA_EN_c` is 0 requests no transfer, in either mode (43_ocu_wfg_regs.md R226). -/
theorem dmaReq_eq_false_of_dmaEn {b : Block} {c : Channel} (h : b.dmaEn c = false) : dmaReq b c = false := by
  cases c <;> simp [dmaReq, h]

@[simp] theorem reset_sts : Block.reset.sts = 0#32 := rfl
@[simp] theorem reset_ocuCtrl : Block.reset.ocuCtrl = 0#32 := rfl

@[simp] theorem reset_chan (c : Channel) : Block.reset.chan c = .zero := by
  cases c <;> rfl

@[simp] theorem reset_dmaEn (c : Channel) : Block.reset.dmaEn c = false := by
  simp [Block.dmaEn, chanBit]

theorem reset_out (c : Channel) : out Block.reset c = false := by
  simp [out, ChanState.zero]

/-- Settles O19: the block after reset is the table of 10_state.md R57, and each port of R58 is low because the
elements it reads are 0: the status word, `DMA_EN_c` and `OUT_c`. -/
theorem resetState : Obligations.ResetState :=
  ⟨rfl, irq_eq_false_of_sts_eq_zero reset_sts, arbCause_zero,
    fun c => ⟨reset_out c, dmaReq_eq_false_of_dmaEn (reset_dmaEn c)⟩⟩

end Sys2Proof.Machine
end

section
/-! SUPPORT. What each operation does to `STS`, and what raises `FIFO_FULL_c` (10_state.md R35, 43_ocu_wfg_regs.md
R218), so that a paced DMA engine never overruns (20_memory.md R94). -/

namespace Sys2Proof.Machine

/-! ### Pending causes after each update of the status word -/

/-- No two causes share a status bit (10_state.md R35). -/
theorem causeIndex_inj {k k' : Cause} {c c' : Channel} : causeIndex k c = causeIndex k' c' ↔ k = k' ∧ c = c' := by
  cases k <;> cases k' <;> cases c <;> cases c' <;> decide

/-- Raising a cause makes it pending where the condition holds, and no other (60_exceptions.md R355). -/
@[simp] theorem pending_raiseCause (cond : Bool) (k k' : Cause) (c c' : Channel) (sts : Word) :
    pending (raiseCause cond k c sts) k' c' = (pending sts k' c' || (cond && decide (k' = k ∧ c' = c))) := by
  simp only [pending, raiseCause_getLsbD, ← causeIndex_inj]
  rfl

/-- Clearing status bits makes no cause pending (60_exceptions.md R355). -/
theorem pending_of_and {sts w : Word} {k : Cause} {c : Channel} (h : pending (sts &&& w) k c = true) :
    pending sts k c = true := by
  simp only [pending, BitVec.getLsbD_and, Bool.and_eq_true] at h
  obtain ⟨hsts, -⟩ := h
  exact hsts

/-- The service only clears (48_system_ops.md R341). -/
theorem pending_of_clearWinner {sts : Word} {k : Cause} {c : Channel} (h : pending (clearWinner sts) k c = true) :
    pending sts k c = true := by
  unfold clearWinner at h
  split at h
  · exact h
  · exact pending_of_and h

/-! ### The status word after each shared update -/

/-- The soft-reset pulses raise and clear no status bit (40_control_regs.md R153). -/
@[simp] theorem softResets_sts (b : Block) (d : Word) : (b.softResets d).sts = b.sts := by
  rw [softResets_eq]
  dsimp only
  split_ifs <;> simp

/-- The trigger pulses raise and clear no status bit (40_control_regs.md R154). -/
@[simp] theorem triggers_sts (b : Block) (d : Word) : (b.triggers d).sts = b.sts := by
  rw [triggers_eq]
  dsimp only
  split_ifs <;> simp

/-- A tick raises only `EVENT_c`, `ZERO_c` and `PEAK_c` (46_tick_counting.md R309 to R311). -/
@[simp] theorem pending_fifoFull_tick (b : Block) (inp : BitVec 4) (c : Channel) :
    pending (b.tick inp).sts .fifoFull c = pending b.sts .fifoFull c := by
  cases h : b.mode32
  · simp [tick_mode16 b inp h]
  · simp [tick_mode32 b inp h]

/-! ### The buffered compare write -/

@[simp] theorem bufferCompare_level (d : Word) (b : Block) (c : Channel) : (b.bufferCompare d c).level = b.level := by
  cases h : b.bufEn c
  · rw [bufferCompare_through d b c h]
  · simp [bufferCompare_pending d b c h]

@[simp] theorem bufferCompare_ocuCtrl (d : Word) (b : Block) (c : Channel) :
    (b.bufferCompare d c).ocuCtrl = b.ocuCtrl := by
  cases h : b.bufEn c
  · rw [bufferCompare_through d b c h]
  · simp [bufferCompare_pending d b c h]

/-- The compare value of one channel touches no one-bit element of the other (43_ocu_wfg_regs.md R218). -/
@[simp] theorem bufferCompare_chan_other (d : Word) (b : Block) (c : Channel) :
    (b.bufferCompare d c).chan c.other = b.chan c.other := by
  cases h : b.bufEn c
  · rw [bufferCompare_through d b c h]; cases c <;> rfl
  · rw [bufferCompare_pending d b c h]; cases c <;> rfl

/-- Whether a compare value written to channel `c` overruns the one before it: buffering and DMA mode are on and a
value is still pending (43_ocu_wfg_regs.md R218, R219). -/
def Block.overruns (b : Block) (c : Channel) : Bool := b.bufEn c && ((b.chan c).nxtValid && b.dmaEn c)

/-- The compare value of channel `c` raises `FIFO_FULL_c` where it overruns, and nothing else
(43_ocu_wfg_regs.md R218). -/
theorem bufferCompare_sts (d : Word) (b : Block) (c : Channel) :
    (b.bufferCompare d c).sts = raiseCause (b.overruns c) .fifoFull c b.sts := by
  cases h : b.bufEn c
  · simp [bufferCompare_through d b c h, Block.overruns, h, raiseCause]
  · simp [bufferCompare_pending d b c h, Block.overruns, h]

/-- The compare value of one channel does not make the other channel's overrun. -/
@[simp] theorem overruns_bufferCompare_other (d : Word) (b : Block) (c : Channel) :
    (b.bufferCompare d c).overruns c.other = b.overruns c.other := by
  simp [Block.overruns, Block.bufEn, Block.dmaEn]

/-- `FIFO_FULL_c` after a write of OCU_COMPARE_NXT: set before, or raised because channel `c` is active and overruns
(43_ocu_wfg_regs.md R218). -/
theorem pending_fifoFull_bufferCompares (d : Word) (b : Block) (m : Bool) (c : Channel) :
    pending ((activeChannels m).foldl (Block.bufferCompare d) b).sts .fifoFull c =
      (pending b.sts .fifoFull c || (b.overruns c && decide (c ∈ activeChannels m))) := by
  have h01 := overruns_bufferCompare_other d b .c0
  simp only [Channel.other] at h01
  cases m <;> cases c <;> simp [activeChannels, bufferCompare_sts, h01]

/-- A channel that requests a transfer does not overrun: its pending slot is free (43_ocu_wfg_regs.md R226). -/
theorem overruns_eq_false_of_dmaReq {b : Block} {c : Channel} (h : dmaReq b c = true) : b.overruns c = false := by
  have hfree : (b.chan c).nxtValid = false := by
    cases c <;> simp only [dmaReq, Bool.and_eq_true, Bool.not_eq_true'] at h
    · obtain ⟨-, hslot⟩ := h
      exact hslot
    · obtain ⟨-, -, hslot⟩ := h
      exact hslot
  simp [Block.overruns, hfree]

/-! ### The status word after an operation -/

/-- Everything an operation can do to `STS`: nothing, or it is one of the five that write it (10_state.md R35). -/
theorem exec_sts_cases {i : Instr} {s t : State} (h : exec i s = .next t) :
    t.sts = s.sts ∨
    (∃ d, i = .wrIntrAck d ∧ t.sts = s.sts &&& ~~~(d &&& causeBits)) ∨
    (∃ d, i = .wrOcuCompareNxt d ∧
      t.sts = ((activeChannels s.mode32).foldl (Block.bufferCompare d) { s.toBlock with ocuCompareNxt := d }).sts) ∨
    (∃ inp, i = .tick inp ∧ t.sts = (s.tick inp).sts) ∨
    (i = .svc ∧ t.sts = clearWinner s.sts) ∨
    (i = .rst ∧ t.sts = 0) := by
  cases i with
  | wrIntrAck d => cases h; exact .inr (.inl ⟨d, rfl, rfl⟩)
  | wrOcuCompareNxt d => cases h; exact .inr (.inr (.inl ⟨d, rfl, rfl⟩))
  | tick inp =>
    obtain ⟨-, hb, -⟩ := execTick_next h
    exact .inr (.inr (.inr (.inl ⟨inp, rfl, by rw [hb]⟩)))
  | svc => cases h; exact .inr (.inr (.inr (.inr (.inl ⟨rfl, rfl⟩))))
  | rst => cases h; exact .inr (.inr (.inr (.inr (.inr ⟨rfl, rfl⟩))))
  | wrGenCtrlSet d =>
    cases h
    exact .inl ((triggers_sts _ d).trans (softResets_sts _ d))
  | _ => cases h; exact .inl rfl

/-- What sets `FIFO_FULL_c`: an overrunning write of OCU_COMPARE_NXT and no other operation
(43_ocu_wfg_regs.md R218, 20_memory.md R94). -/
theorem fifoFull_of_exec {i : Instr} {s t : State} {c : Channel} (h : exec i s = .next t)
    (ht : pending t.sts .fifoFull c = true) :
    pending s.sts .fifoFull c = true ∨ (∃ d, i = .wrOcuCompareNxt d) ∧ s.overruns c = true := by
  obtain hs | ⟨d, -, hs⟩ | ⟨d, rfl, hs⟩ | ⟨inp, -, hs⟩ | ⟨-, hs⟩ | ⟨-, hs⟩ := exec_sts_cases h <;> rw [hs] at ht
  · exact .inl ht
  · exact .inl (pending_of_and ht)
  · rw [pending_fifoFull_bufferCompares, Bool.or_eq_true, Bool.and_eq_true] at ht
    exact ht.imp_right fun ⟨ho, _⟩ => ⟨⟨d, rfl⟩, ho⟩
  · exact .inl (pending_fifoFull_tick s.toBlock inp c ▸ ht)
  · exact .inl (pending_of_clearWinner ht)
  · simp at ht

/-- The bit the statements name is the cause the model scans: `FIFO_FULL_c` is bit 1 of the half (10_state.md R35). -/
theorem bit_one_eq_pending (w : Word) (c : Channel) : Claims.bit w 1 c = pending w .fifoFull c := by
  cases c <;> rfl

/-- Settles O50: only a write of OCU_COMPARE_NXT that overruns sets `FIFO_FULL_c`, and while the request is high
channel `c` does not overrun. -/
theorem pacedDmaNeverOverruns : Obligations.PacedDmaNeverOverruns := by
  intro i s t c h hreq hbit
  rw [bit_one_eq_pending] at hbit ⊢
  obtain hset | ⟨⟨d, rfl⟩, hover⟩ := fifoFull_of_exec h hbit
  · exact hset
  · have hfree := overruns_eq_false_of_dmaReq (hreq d rfl)
    exact absurd hover (by simp [hfree])

end Sys2Proof.Machine
end

section
/-! SUPPORT. The decoder and the encoder as inverses of each other over every well-formed register map, and the masks of
the opcode table as the fields of a command word they keep (30_encoding.md R111, R118, R144). -/

namespace Sys2Proof

/-! ### Registers, operations and instructions -/

theorem Reg.mem_all (r : Reg) : r ∈ Reg.all := by
  cases r with
  | evt a k => cases a <;> cases k <;> decide
  | _ => decide

@[simp] theorem toOp_rdInstr (r : Reg) : (rdInstr r).toOp = .rd r := by
  cases r with
  | evt a k => cases a <;> cases k <;> rfl
  | _ => rfl

@[simp] theorem toOp_wrInstr (d : Word) (r : Reg) : (wrInstr d r).toOp = .wr r d := by
  cases r with
  | evt a k => cases a <;> cases k <;> rfl
  | _ => rfl

@[simp] theorem toOp_ofOp (o : Op) : (Instr.ofOp o).toOp = o := by
  cases o with
  | rd r => exact toOp_rdInstr r
  | wr r d => exact toOp_wrInstr d r
  | _ => rfl

/-- An instruction is one row of the table and its operands: its operation says all of it (30_encoding.md R144). -/
@[simp] theorem ofOp_toOp (i : Instr) : Instr.ofOp i.toOp = i := by
  cases i <;> rfl

/-! ### The register at an offset -/

/-- What the scan of the map finds at an offset is placed there. -/
theorem eq_off_of_regAt {m : RegMap} {off : Offset} {r : Reg} (h : regAt m off = some r) : m r = off := by
  simpa using List.find?_some h

/-- Over a map without aliases the scan of the map finds each register at its own offset (30_encoding.md R113). -/
theorem regAt_self {m : RegMap} (hm : m.NoAlias) (r : Reg) : regAt m (m r) = some r := by
  cases h : regAt m (m r) with
  | none => exact absurd (List.find?_eq_none.mp h r r.mem_all) (by simp)
  | some r' => rw [List.inj_on_of_nodup_map hm r'.mem_all r.mem_all (eq_off_of_regAt h)]

/-! ### The data field of a tick -/

/-- A data word is its upper 28 bits and the four input levels (30_encoding.md R111). -/
theorem data_split (d : Word) : d.extractLsb' 4 28 ++ d.extractLsb' 0 4 = d :=
  BitVec.extractLsb'_append_extractLsb' (w := 28)

theorem setWidth_inputs (inp : BitVec 4) : inp.setWidth 32 = 0#28 ++ inp :=
  BitVec.setWidth_eq_append (by decide)

@[simp] theorem low_setWidth_inputs (inp : BitVec 4) : (inp.setWidth 32).extractLsb' 0 4 = inp := by
  rw [setWidth_inputs, BitVec.extractLsb'_append_eq_right]

@[simp] theorem high_setWidth_inputs (inp : BitVec 4) : (inp.setWidth 32).extractLsb' 4 28 = 0#28 := by
  rw [setWidth_inputs, BitVec.extractLsb'_append_eq_left]

/-- A data word whose upper 28 bits are 0 holds four input levels and nothing else (30_encoding.md R118). -/
theorem eq_setWidth_inputs {d : Word} (h : d.extractLsb' 4 28 = 0#28) : d = (d.extractLsb' 0 4).setWidth 32 := by
  rw [setWidth_inputs, ← h, data_split]

/-! ### Decoding inverts encoding -/

/-- The operation of an access of a register: a read carries no data (30_encoding.md R112). -/
def Op.access (d : Word) : Dir → Reg → Op
  | .read, r => .rd r
  | .write, r => .wr r d

/-- At a register's own offset an access is the read or the write of that register. -/
theorem decodeAccess_self {m : RegMap} (hm : m.WellFormed) (dir : Dir) (d : Word) (r : Reg) :
    decodeAccess m dir (m r) d = .instr (.ofOp (.access d dir r)) := by
  obtain ⟨haligned, hnoAlias⟩ := hm
  simp only [decodeAccess, haligned r r.mem_all, regAt_self hnoAlias]
  cases dir <;> rfl

/-- An access that is an instruction is the access of a register placed at its offset. -/
theorem decodeAccess_eq_instr {m : RegMap} {dir : Dir} {off : Offset} {d : Word} {i : Instr}
    (h : decodeAccess m dir off d = .instr i) : ∃ r, m r = off ∧ i.toOp = .access d dir r := by
  unfold decodeAccess at h
  split at h
  · cases h
  · cases hr : regAt m off with
    | none => rw [hr] at h; cases h
    | some r =>
      rw [hr] at h
      refine ⟨r, eq_off_of_regAt hr, ?_⟩
      cases dir <;> cases h
      · exact toOp_rdInstr r
      · exact toOp_wrInstr d r

/-- Every operation is what its word decodes to (30_encoding.md R111, R113). -/
theorem decodeWith_encodeOp {m : RegMap} (hm : m.WellFormed) (o : Op) :
    decodeWith m (encodeOp m o) = .instr (.ofOp o) := by
  cases o with
  | rd r => simpa [decodeWith, encodeOp, Op.access] using decodeAccess_self hm .read 0 r
  | wr r d => simpa [decodeWith, encodeOp, Op.access] using decodeAccess_self hm .write d r
  | tick inp => simp [decodeWith, encodeOp, Instr.ofOp]
  | svc => simp [decodeWith, encodeOp, Instr.ofOp]
  | rst => simp [decodeWith, encodeOp, Instr.ofOp]

/-- A word that decodes to an instruction is the word of that instruction's operation (30_encoding.md R118). -/
theorem encodeWith_of_decodeWith {m : RegMap} {w : CommandWord} {i : Instr} (h : decodeWith m w = .instr i) :
    encodeWith m i = w := by
  rw [← make_fields w]
  unfold decodeWith at h
  split_ifs at h with hkind hdata hkind hkind hfields hkind hfields hkind hfields
  · obtain ⟨r, hoff, hop⟩ := decodeAccess_eq_instr h
    rw [encodeWith, hop, hkind, hdata, ← hoff]
    rfl
  · obtain ⟨r, hoff, hop⟩ := decodeAccess_eq_instr h
    rw [encodeWith, hop, hkind, ← hoff]
    rfl
  · obtain ⟨hoff, hhigh⟩ := hfields
    cases h
    rw [hkind, hoff, eq_setWidth_inputs hhigh, low_setWidth_inputs]
    rfl
  · obtain ⟨hoff, hdata⟩ := hfields
    cases h
    rw [hkind, hoff, hdata]
    rfl
  · obtain ⟨hoff, hdata⟩ := hfields
    cases h
    rw [hkind, hoff, hdata]
    rfl

/-- Over a well-formed map the words of an instruction are exactly one: the one the encoder gives it. -/
theorem decodeWith_eq_instr_iff {m : RegMap} (hm : m.WellFormed) (w : CommandWord) (i : Instr) :
    decodeWith m w = .instr i ↔ w = encodeWith m i := by
  constructor
  · exact fun h => (encodeWith_of_decodeWith h).symm
  · rintro rfl
    rw [encodeWith, decodeWith_encodeOp hm, ofOp_toOp]

theorem defaultRegMap_wellFormed : defaultRegMap.WellFormed := by decide

theorem decode_eq_instr_iff (w : CommandWord) (i : Instr) : decode w = .instr i ↔ w = encode i :=
  decodeWith_eq_instr_iff defaultRegMap_wellFormed w i

/-! ### Fields under the masks of the table -/

theorem make_inj {k k' : BitVec 4} {o o' : Offset} {d d' : Word} :
    CommandWord.make k o d = CommandWord.make k' o' d' ↔ k = k' ∧ o = o' ∧ d = d' := by
  constructor
  · intro h
    exact ⟨by simpa using congrArg CommandWord.kind h, by simpa using congrArg CommandWord.off h,
      by simpa using congrArg CommandWord.data h⟩
  · rintro ⟨rfl, rfl, rfl⟩
    rfl

/-- A mask acts on each field of a command word. -/
theorem make_and_make (k k' : BitVec 4) (o o' : Offset) (d d' : Word) :
    CommandWord.make k o d &&& CommandWord.make k' o' d' = CommandWord.make (k &&& k') (o &&& o') (d &&& d') :=
  BitVec.and_append.trans (congrArg (· ++ (d &&& d')) BitVec.and_append)

/-- The mask of an `RD`, `SVC` or `RST` row keeps the whole word. -/
theorem and_wholeMask (w : CommandWord) : w &&& 0xFFFFFFFFFFFF#48 = w := BitVec.and_allOnes

/-- The mask of a `WR` row keeps the kind and the offset. -/
theorem make_and_writeMask (k : BitVec 4) (o : Offset) (d : Word) :
    CommandWord.make k o d &&& 0xFFFF00000000#48 = CommandWord.make k o 0 := by
  have hmask : 0xFFFF00000000#48 = CommandWord.make (.allOnes 4) (.allOnes 12) 0 := by decide
  rw [hmask, make_and_make, BitVec.and_allOnes, BitVec.and_allOnes]
  exact congrArg _ BitVec.and_zero

/-- The mask of the `TICK` row clears the four input levels. -/
theorem make_and_tickMask (k : BitVec 4) (o : Offset) (d : Word) :
    CommandWord.make k o d &&& 0xFFFFFFFFFFF0#48 = CommandWord.make k o (d.extractLsb' 4 28 ++ 0#4) := by
  have hmask : 0xFFFFFFFFFFF0#48 = CommandWord.make (.allOnes 4) (.allOnes 12) (BitVec.allOnes 28 ++ 0#4) := by decide
  have hdata : d &&& (BitVec.allOnes 28 ++ 0#4) = d.extractLsb' 4 28 ++ 0#4 := by
    calc d &&& (BitVec.allOnes 28 ++ 0#4)
        = (d.extractLsb' 4 28 ++ d.extractLsb' 0 4) &&& (BitVec.allOnes 28 ++ 0#4) := by rw [data_split]
      _ = d.extractLsb' 4 28 ++ 0#4 := by
        rw [BitVec.and_append, BitVec.and_allOnes, BitVec.and_zero]
  rw [hmask, make_and_make, BitVec.and_allOnes, BitVec.and_allOnes, hdata]

/-- The match of a register row is its kind over its offset, with no data (30_encoding.md R144). -/
theorem kind_or_shifted_off (k : BitVec 4) (o : Offset) :
    CommandWord.make k 0 0 ||| (o.setWidth 48 <<< 32) = CommandWord.make k o 0 := by
  ext i hi
  simp only [CommandWord.make, BitVec.getElem_or, BitVec.getElem_append, BitVec.getElem_shiftLeft,
    BitVec.getElem_setWidth]
  grind

/-! ### The rows -/

/-- The row of a register's `RD`. -/
theorem decode_rdInstr_iff (w : CommandWord) (r : Reg) :
    decode w = .instr (rdInstr r) ↔ w &&& 0xFFFFFFFFFFFF#48 = (defaultRegMap r).setWidth 48 <<< 32 := by
  have hmatch : (defaultRegMap r).setWidth 48 <<< 32 = encode (rdInstr r) := by
    rw [encode, encodeWith, toOp_rdInstr, encodeOp, ← kind_or_shifted_off]
    exact BitVec.zero_or.symm
  rw [and_wholeMask, hmatch, decode_eq_instr_iff]

/-- The row of a register's `WR`: the data field is the operand. -/
theorem decode_wrInstr_iff (w : CommandWord) (r : Reg) :
    (∃ d, decode w = .instr (wrInstr d r)) ↔
      w &&& 0xFFFF00000000#48 = 0x100000000000#48 ||| ((defaultRegMap r).setWidth 48 <<< 32) := by
  have hmatch : 0x100000000000#48 ||| ((defaultRegMap r).setWidth 48 <<< 32) =
      CommandWord.make 1 (defaultRegMap r) 0 := kind_or_shifted_off 1 _
  rw [hmatch, ← make_fields w, make_and_writeMask]
  simp only [decode_eq_instr_iff, encode, encodeWith, toOp_wrInstr, encodeOp, make_inj, exists_and_left,
    exists_eq', and_true]

/-- The row of `TICK`: the four input levels are the operand. -/
theorem decode_tick_iff (w : CommandWord) :
    (∃ inp, decode w = .instr (.tick inp)) ↔ w &&& 0xFFFFFFFFFFF0#48 = 0x200000000000#48 := by
  have hmatch : 0x200000000000#48 = CommandWord.make 2 0 (0#28 ++ 0#4) := by decide
  rw [hmatch, ← make_fields w, make_and_tickMask]
  simp only [decode_eq_instr_iff, encode, encodeWith, Instr.toOp, encodeOp, make_inj, exists_and_left]
  refine and_congr_right fun _ => and_congr_right fun _ => ?_
  constructor
  · rintro ⟨inp, hinp⟩
    rw [hinp, high_setWidth_inputs]
  · intro h
    exact ⟨_, eq_setWidth_inputs ((BitVec.append_left_inj _).mp h)⟩

/-- Settles O41: the rows of the registers, of `TICK`, and of `SVC` and `RST`, whose one word the table writes out. -/
theorem tableRows : Obligations.TableRows := by
  refine ⟨rfl, fun w r => ⟨r.mem_all, decode_rdInstr_iff w r, decode_wrInstr_iff w r⟩, fun w =>
    ⟨decode_tick_iff w, ?_, ?_⟩⟩
  · rw [and_wholeMask, decode_eq_instr_iff]
    rfl
  · rw [and_wholeMask, decode_eq_instr_iff]
    rfl

end Sys2Proof
end

section
/-! SUPPORT. A control-set write that pulses one trigger, and the run of `start_on_software_trigger` over it
(40_control_regs.md R151, 30_encoding.md R129). -/

namespace Sys2Proof.Machine

open Sys2Proof.Claims

/-! ### The numbers of the statements as the model's fields -/

theorem part_eq_toNat_slice (m : Bool) (w : Word) (c : Channel) : part m w c = (slice m w c).toNat := by
  cases m with
  | true => rfl
  | false =>
    cases c with
    | c0 => simp [part, slice, idx]; omega
    | c1 => simp [part, slice, idx, Nat.shiftRight_eq_div_pow]; omega

theorem dir_eq_toNat (b : Block) (c : Channel) :
    dir b c = (b.level.extractLsb' (dirBit + c.shift) 2).toNat := by
  cases c <;> simp [dir, field, idx, dirBit, Channel.shift, Config.counterOffset, Nat.shiftRight_eq_div_pow]

theorem isActive_iff (b : Block) (c : Channel) : isActive b c = true ↔ c ∈ activeChannels b.mode32 := by
  rw [mem_activeChannels]
  cases c <;> simp [isActive, idx, mode, Block.mode32]

/-! ### The pulses of a control-set write -/

/-- The trigger pulses leave the count (40_control_regs.md R154). -/
@[simp] theorem triggers_counter (b : Block) (d : Word) : (b.triggers d).counter = b.counter := by
  rw [triggers_eq]
  dsimp only
  split_ifs <;> simp

/-- An active channel whose own trigger bit is written is started, whatever the other channel's pulse does
(40_control_regs.md R154). -/
theorem triggers_chan_of_trigBit {b : Block} {d : Word} {c : Channel} (hactive : c ∈ activeChannels b.mode32)
    (htrig : chanBit d trigBit c = true) : (b.triggers d).chan c = (b.chan c).started := by
  have htriggered (b' : Block) : b'.triggered d c = true := by simp [Block.triggered, htrig]
  rw [triggers_eq]
  cases c with
  | c0 =>
    simp only [htriggered, if_true]
    split_ifs <;> simp [Block.startChannel]
  | c1 =>
    have hmode : b.mode32 = false := by simpa [mem_activeChannels] using hactive
    simp only [hmode, htriggered, if_true, Bool.false_eq_true, if_false, startChannel_chan_same]
    split_ifs <;> simp [Block.startChannel]

/-- A write without a soft-reset bit resets no channel (40_control_regs.md R153). -/
theorem softResets_of_no_softResetBit {d : Word} (h : ∀ c, chanBit d softResetBit c = false) (b : Block) :
    b.softResets d = b := by
  simp [softResets_eq, h]

/-- A write without a level bit sets none (40_control_regs.md R152). -/
theorem setLevel_of_no_levelBit {d : Word} (h : d &&& levelMask = 0#32) (b : Block) : b.setLevel d = b := by
  simp [Block.setLevel, h]

/-- The word of one trigger is a trigger pulse and nothing else: its control-set write is the start pulses alone
(30_encoding.md R129, 40_control_regs.md R151). -/
theorem exec_wrGenCtrlSet_trigger (c : Channel) (s : State) :
    exec (wrInstr (flagWord true trigBit c) .genCtrlSet) s =
      leavesBlock (s.triggers (flagWord true trigBit c)) s := by
  have hlevel : flagWord true trigBit c &&& levelMask = 0#32 := by cases c <;> decide
  have hreset (c' : Channel) : chanBit (flagWord true trigBit c) softResetBit c' = false := by
    cases c <;> cases c' <;> decide
  change execWrGenCtrlSet _ s = _
  rw [execWrGenCtrlSet, setLevel_of_no_levelBit hlevel, softResets_of_no_softResetBit hreset]

/-! ### Running a call -/

theorem run_rd {α : Type} {r : Reg} {v : Word} {s : State} (h : exec (rdInstr r) s = readsAs v s)
    (k : Word → Prog α) : (Prog.rd r k).run s = (k v).run (s.answer (.data v)) := by
  simp [Prog.run, h, readsAs]

theorem run_wr {α : Type} {r : Reg} {d : Word} {b : Block} {s : State}
    (h : exec (wrInstr d r) s = leavesBlock b s) (k : Prog α) :
    (Prog.wr r d k).run s = k.run ((s.withBlock b).answer .ok) := by
  simp [Prog.run, h, leavesBlock]

/-- Channel `c` is started from the count it held in `b`: it runs, not halted and ascending
(40_control_regs.md R154). -/
def StartedFrom (b : Block) (c : Channel) (t : State) : Prop :=
  isActive b c = true →
    (t.chan c).run = true ∧ (t.chan c).halt = false ∧ (t.chan c).phase = false ∧ cnt t.toBlock c = cnt b c

/-- The last operation of `start_on_software_trigger`, which returns `OK` (30_encoding.md R129). -/
def startOperation (c : Channel) : Prog Status := .wr .genCtrlSet (flagWord true trigBit c) (.ret .ok)

/-- The last operation of the call starts the counter (30_encoding.md R129). -/
theorem run_startOperation (c : Channel) (s : State) :
    ∃ t, (startOperation c).run s = some (.ok, t) ∧ StartedFrom s.toBlock c t := by
  refine ⟨_, run_wr (exec_wrGenCtrlSet_trigger c s) _, fun hactive => ?_⟩
  have hchan := triggers_chan_of_trigBit ((isActive_iff _ c).mp hactive)
    (d := flagWord true trigBit c) (by cases c <;> decide)
  simp [hchan, ChanState.started, cnt, mode]

/-- In 32-bit mode the call reads the control word and starts the counter. -/
theorem run_start_mode32 {s : State} (hmode : mode s.toBlock = true) (c : Channel) :
    (startOnSoftwareTrigger c).run s = (startOperation c).run (s.answer (.data s.level)) := by
  have hbit : s.level.getLsbD 0 = true := hmode
  rw [startOnSoftwareTrigger, run_rd rfl, if_pos hbit]
  rfl

/-- In 16-bit mode the call reads the control word, the count and the match value, and then rejects a count that
its direction takes past the match value (30_encoding.md R129). -/
theorem run_start_mode16 {s : State} (hmode : mode s.toBlock = false) (c : Channel) :
    (startOnSoftwareTrigger c).run s =
      if dir s.toBlock c ≠ 2 ∧ mat s.toBlock c < cnt s.toBlock c then
        some (.invalidParameter, s.answer (.data s.matchReg))
      else
        (startOperation c).run (s.answer (.data s.matchReg)) := by
  have hbit : ¬s.level.getLsbD 0 = true := ne_true_of_eq_false hmode
  have hdir : dir s.toBlock c ≠ 2 ↔ s.level.extractLsb' (dirBit + c.shift) 2 ≠ 0b10#2 := by
    rw [dir_eq_toNat, ne_eq, ne_eq, ← BitVec.toNat_inj]
    rfl
  have hless : mat s.toBlock c < cnt s.toBlock c ↔ slice false s.matchReg c < slice false s.counter c := by
    rw [mat, cnt, hmode, part_eq_toNat_slice, part_eq_toNat_slice, BitVec.lt_def]
  rw [startOnSoftwareTrigger, run_rd rfl, if_neg hbit, run_rd rfl, run_rd rfl, apply_ite (Prog.run · _)]
  exact (if_congr (and_congr hdir hless) rfl rfl).symm

/-- Settles O59: by the mode the call reads and, in 16-bit mode, by its check. -/
theorem startCheckRejectsUnreachable : Obligations.StartCheckRejectsUnreachable := by
  intro s c
  cases hmode : mode s.toBlock with
  | true =>
    rw [if_neg (by simp), run_start_mode32 hmode]
    exact run_startOperation c (s.answer _)
  | false =>
    rw [run_start_mode16 hmode]
    simp only [true_and]
    split_ifs
    · exact ⟨_, rfl, rfl⟩
    · exact run_startOperation c (s.answer _)

end Sys2Proof.Machine
end

section
/-! SUPPORT. The command words and the answers of the register accesses, one lemma for the reads and one for the writes,
and the operations of the control word (30_encoding.md R111, R144; 40_control_regs.md). -/

namespace Sys2Proof.Machine

open Sys2Proof.Claims

/-! ### Register accesses -/

/-- The fields of a command word in place and the sum that the statements write are the same word
(30_encoding.md R111). -/
theorem make_eq_cmd (k : BitVec 4) (o : Offset) (d : Word) : CommandWord.make k o d = cmd k.toNat o.toNat d := by
  apply BitVec.eq_of_toNat_eq
  have hk := k.isLt
  have ho := o.isLt
  have hd := d.isLt
  rw [CommandWord.make, cmd, BitVec.toNat_append, BitVec.toNat_append, ← Nat.shiftLeft_add_eq_or_of_lt ho,
    ← Nat.shiftLeft_add_eq_or_of_lt hd, BitVec.toNat_ofNat, Nat.shiftLeft_eq, Nat.shiftLeft_eq]
  omega

theorem encode_rdInstr (r : Reg) : encode (rdInstr r) = cmd 0 (defaultRegMap r).toNat 0 := by
  rw [encode, encodeWith, toOp_rdInstr]
  exact make_eq_cmd 0 _ 0

theorem encode_wrInstr (d : Word) (r : Reg) : encode (wrInstr d r) = cmd 1 (defaultRegMap r).toNat d := by
  rw [encode, encodeWith, toOp_wrInstr]
  exact make_eq_cmd 1 _ d

/-- A read whose meaning is `readsAs` answers its value and leaves the block (30_encoding.md R112, 20_memory.md R85). -/
theorem answers_rd {r : Reg} {v : Word} {s : State} (h : exec (rdInstr r) s = readsAs v s) :
    Answers (cmd 0 (defaultRegMap r).toNat 0) (rdInstr r) s s.toBlock (.data v) :=
  ⟨encode_rdInstr r, _, h, rfl, rfl⟩

/-- A write whose meaning is `leavesBlock` leaves that block and returns nothing (30_encoding.md R112). -/
theorem answers_wr {r : Reg} {d : Word} {b : Block} {s : State} (h : exec (wrInstr d r) s = leavesBlock b s) :
    Answers (cmd 1 (defaultRegMap r).toNat d) (wrInstr d r) s b .ok :=
  ⟨encode_wrInstr d r, _, h, rfl, rfl⟩

/-! ### Reads of the control word, and the control-clear write -/

/-- The stored control word has no bit outside `LEVEL_MASK` (10_state.md R59 b). -/
theorem level_masked_of_inv {b : Block} (h : b.Inv) : b.level &&& ~~~levelMask = 0 := by
  obtain ⟨-, ⟨hlevel, -⟩, -⟩ := h
  exact hlevel

/-- Settles O1: both reads answer `LEVEL`, and the invariant bounds it. -/
theorem controlWordReads : Obligations.ControlWordReads := fun _ =>
  ⟨answers_rd (r := .genCtrlSet) rfl, answers_rd (r := .genCtrlReset) rfl, level_masked_of_inv⟩

/-- Settles O14: the write is one store of `LEVEL`; a word with every implemented and every pulse bit clears all that
the invariant leaves in it. -/
theorem controlClear : Obligations.ControlClear := by
  intro d s
  have hevery : 0x00FE00FF#32 &&& 0x00F400F5#32 = levelMask := by decide
  exact ⟨answers_wr (r := .genCtrlReset) rfl, fun hinv => hevery ▸ level_masked_of_inv hinv⟩

/-! ### The pulses of a control-set write, channel by channel -/

/-- A soft reset clears the run state of its own channel and of no other (40_control_regs.md R153). -/
theorem softReset_chan (b : Block) (c c' : Channel) :
    (b.softReset c).chan c' = if c' = c then (b.chan c').stopped else b.chan c' := by
  cases c <;> cases c' <;> rfl

/-- A start sets the run state of its own channel and of no other (40_control_regs.md R154). -/
theorem startChannel_chan (b : Block) (c c' : Channel) :
    (b.startChannel c).chan c' = if c' = c then (b.chan c').started else b.chan c' := by
  cases c <;> cases c' <;> rfl

/-- A loop over channels that updates each one alone, where a condition the updates do not change holds, updates the
channels of the list where the condition holds. -/
theorem chan_foldl_pulse {f : Block → Channel → Block} {g : ChanState → ChanState}
    {p : Block → Channel → Bool}
    (hf : ∀ b c c', (f b c).chan c' = if c' = c then g (b.chan c') else b.chan c')
    (hp : ∀ b c c', p (f b c) c' = p b c') {cs : List Channel} (hcs : cs.Nodup) (b : Block) (c : Channel) :
    (cs.foldl (fun b c => if p b c then f b c else b) b).chan c =
      if c ∈ cs ∧ p b c then g (b.chan c) else b.chan c := by
  induction cs generalizing b with
  | nil => simp
  | cons x xs ih =>
    obtain ⟨hx, hxs⟩ := List.nodup_cons.mp hcs
    rw [List.foldl_cons, ih hxs]
    cases hpx : p b x with
    | false => by_cases hc : c = x <;> simp_all
    | true => by_cases hc : c = x <;> simp_all

theorem activeChannels_nodup (m : Bool) : (activeChannels m).Nodup := by
  cases m <;> decide

/-- Whether a channel is triggered depends on the control word alone, which no start changes. -/
@[simp] theorem triggered_startChannel (b : Block) (d : Word) (c c' : Channel) :
    (b.startChannel c).triggered d c' = b.triggered d c' := by
  simp [Block.triggered, Block.mode32, Block.syncTrig]

/-- The soft resets of a write do not change whether it triggers a channel. -/
@[simp] theorem triggered_softResets (b : Block) (d d' : Word) (c : Channel) :
    (b.softResets d).triggered d' c = b.triggered d' c := by
  simp [Block.triggered, Block.mode32, Block.syncTrig]

@[simp] theorem softResets_mode32 (b : Block) (d : Word) : (b.softResets d).mode32 = b.mode32 := by
  simp [Block.mode32]

/-- The soft-reset pulses reach the active channels whose bit is written (40_control_regs.md R153). -/
theorem softResets_chan (b : Block) (d : Word) (c : Channel) :
    (b.softResets d).chan c =
      if c ∈ activeChannels b.mode32 ∧ chanBit d softResetBit c then (b.chan c).stopped else b.chan c :=
  chan_foldl_pulse (p := fun _ => chanBit d softResetBit) softReset_chan (fun _ _ _ => rfl)
    (activeChannels_nodup _) b c

/-- The trigger pulses reach the active channels that are triggered (40_control_regs.md R154). -/
theorem triggers_chan (b : Block) (d : Word) (c : Channel) :
    (b.triggers d).chan c =
      if c ∈ activeChannels b.mode32 ∧ b.triggered d c then (b.chan c).started else b.chan c :=
  chan_foldl_pulse (p := fun b c => b.triggered d c) startChannel_chan (fun b c c' => triggered_startChannel b d c c')
    (activeChannels_nodup _) b c

/-! ### The counts after the soft-reset pulses -/

/-- In 16-bit mode a soft reset clears the count slice of its own channel and no other (40_control_regs.md R153). -/
theorem slice_counter_softReset {b : Block} (hm : b.mode32 = false) (c c' : Channel) :
    slice false (b.softReset c).counter c' = if c' = c then 0 else slice false b.counter c' := by
  rw [softReset_counter, hm]
  split_ifs with hc
  · rw [hc, slice_putSlice_fits (fits_zero false)]
  · obtain rfl : c' = c.other := by cases c <;> cases c' <;> simp_all [Channel.other]
    exact slice_putSlice_other _ _ c

@[simp] theorem softReset_mode32 (b : Block) (c : Channel) : (b.softReset c).mode32 = b.mode32 := by
  simp [Block.mode32]

/-- The soft-reset pulses clear the count of each active channel whose bit is written, and no other
(40_control_regs.md R153). -/
theorem slice_counter_softResets {b : Block} {c : Channel} (hactive : c ∈ activeChannels b.mode32) (d : Word) :
    slice b.mode32 (b.softResets d).counter c =
      if chanBit d softResetBit c then 0 else slice b.mode32 b.counter c := by
  rw [softResets_eq]
  dsimp only
  cases hm : b.mode32 with
  | true =>
    obtain rfl : c = .c0 := by simpa [mem_activeChannels, hm] using hactive
    rw [if_pos rfl]
    split_ifs <;> simp [hm]
  | false =>
    cases c <;> split_ifs <;> simp_all [slice_counter_softReset, -softReset_counter]

/-! ### What the pulses leave alone -/

/-- `b'` is `b` but for the counts and the one-bit elements of the channels. -/
def SameRegisters (b b' : Block) : Prop :=
  ∃ n x y, b' = { b with counter := n, ch0 := x, ch1 := y }

theorem SameRegisters.refl (b : Block) : SameRegisters b b := ⟨_, _, _, rfl⟩

theorem SameRegisters.softReset {b b' : Block} (h : SameRegisters b b') (c : Channel) :
    SameRegisters b (b'.softReset c) := by
  obtain ⟨n, x, y, rfl⟩ := h
  cases c <;> exact ⟨_, _, _, rfl⟩

theorem SameRegisters.startChannel {b b' : Block} (h : SameRegisters b b') (c : Channel) :
    SameRegisters b (b'.startChannel c) := by
  obtain ⟨n, x, y, rfl⟩ := h
  cases c <;> exact ⟨_, _, _, rfl⟩

/-- The soft-reset pulses change no register but COUNTER (40_control_regs.md R153). -/
theorem SameRegisters.softResets {b b' : Block} (h : SameRegisters b b') (d : Word) :
    SameRegisters b (b'.softResets d) := by
  refine List.foldlRecOn _ _ h fun b₁ h₁ c _ => ?_
  split_ifs
  · exact h₁.softReset c
  · exact h₁

/-- The trigger pulses change no register (40_control_regs.md R154). -/
theorem SameRegisters.triggers {b b' : Block} (h : SameRegisters b b') (d : Word) :
    SameRegisters b (b'.triggers d) := by
  refine List.foldlRecOn _ _ h fun b₁ h₁ c _ => ?_
  split_ifs
  · exact h₁.startChannel c
  · exact h₁

/-! ### The two pulses together -/

/-- A channel after the two pulses of a control-set write: the reset comes before the start
(40_control_regs.md R151). -/
def ChanState.pulsed (x : ChanState) (reset started : Bool) : ChanState :=
  let y := if reset then x.stopped else x
  if started then y.started else y

/-- The pulses touch only the run state, and a start overrides a reset of the same write (40_control_regs.md R151). -/
theorem pulsed_eq (x : ChanState) (reset started : Bool) :
    x.pulsed reset started =
      { x with run := started || (!reset && x.run), halt := !started && !reset && x.halt,
               phase := !started && !reset && x.phase } := by
  cases reset <;> cases started <;> rfl

/-- The block after a control-set write (40_control_regs.md R151). -/
def Block.controlSet (b : Block) (d : Word) : Block := ((b.setLevel d).softResets d).triggers d

theorem exec_wrGenCtrlSet (d : Word) (s : State) :
    exec (.wrGenCtrlSet d) s = leavesBlock (s.controlSet d) s := rfl

@[simp] theorem controlSet_level (b : Block) (d : Word) : (b.controlSet d).level = b.level ||| (d &&& levelMask) := by
  simp [Block.controlSet]

theorem controlSet_mode32 (b : Block) (d : Word) : (b.controlSet d).mode32 = (b.setLevel d).mode32 := by
  simp [Block.mode32]

/-- Steps 2 and 3 change no register but COUNTER (40_control_regs.md R153, R154). -/
theorem controlSet_sameRegisters (b : Block) (d : Word) : SameRegisters (b.setLevel d) (b.controlSet d) :=
  ((SameRegisters.refl _).softResets d).triggers d

@[simp] theorem setLevel_chan (b : Block) (d : Word) (c : Channel) : (b.setLevel d).chan c = b.chan c := by
  cases c <;> rfl

/-- A channel active under the new mode is reset and started by its bits and by the other counter's trigger
(40_control_regs.md R151). -/
theorem controlSet_chan_of_active {b : Block} {d : Word} {c : Channel}
    (h : c ∈ activeChannels (b.controlSet d).mode32) :
    (b.controlSet d).chan c =
      (b.chan c).pulsed (chanBit d softResetBit c) ((b.controlSet d).triggered d c) := by
  rw [controlSet_mode32] at h
  have htriggered : (b.controlSet d).triggered d c = (b.setLevel d).triggered d c := by
    simp [Block.triggered, Block.syncTrig, controlSet_mode32]
  rw [htriggered, Block.controlSet, triggers_chan, softResets_chan]
  simp [h, ChanState.pulsed]

/-- A channel inactive under the new mode keeps its run state (40_control_regs.md R151). -/
theorem controlSet_chan_of_inactive {b : Block} {d : Word} {c : Channel}
    (h : c ∉ activeChannels (b.controlSet d).mode32) : (b.controlSet d).chan c = b.chan c := by
  rw [controlSet_mode32] at h
  simp [Block.controlSet, triggers_chan, softResets_chan, h]

/-- A channel active under the new mode keeps its count unless its soft-reset bit is written
(40_control_regs.md R153, R154). -/
theorem controlSet_slice_of_active {b : Block} {d : Word} {c : Channel}
    (h : c ∈ activeChannels (b.controlSet d).mode32) :
    slice (b.controlSet d).mode32 (b.controlSet d).counter c =
      if chanBit d softResetBit c then 0 else slice (b.controlSet d).mode32 b.counter c := by
  rw [controlSet_mode32] at h ⊢
  rw [Block.controlSet, triggers_counter, slice_counter_softResets h, setLevel_counter]

/-! ### The control-set write -/

theorem bit_eq_chanBit (w : Word) (p : Nat) (c : Channel) : bit w p c = chanBit w p c := by
  cases c <;> rfl

/-- What a control-set write starts, in the words of the statements (40_control_regs.md R151 step 3). -/
theorem triggered_eq (b : Block) (d : Word) (c : Channel) :
    b.triggered d c = (bit d 3 c || (!mode b && bit b.level 6 c && bit d 3 c.other)) := by
  simp only [bit_eq_chanBit]
  rfl

/-- The count of an active channel after a control-set write, as a number (40_control_regs.md R153). -/
theorem controlSet_part_of_active {b : Block} {d : Word} {c : Channel}
    (h : c ∈ activeChannels (b.controlSet d).mode32) :
    part (mode (b.controlSet d)) (b.controlSet d).counter c =
      if chanBit d softResetBit c then 0 else part (mode (b.controlSet d)) b.counter c := by
  rw [part_eq_toNat_slice, part_eq_toNat_slice]
  exact (congrArg BitVec.toNat (controlSet_slice_of_active h)).trans (apply_ite BitVec.toNat _ _ _)

/-- Settles O15: the registers by the frame of the pulses, each channel by its activity under the new mode. -/
theorem controlSet : Obligations.ControlSet := by
  intro d s
  refine ⟨encode_wrInstr d .genCtrlSet, _, exec_wrGenCtrlSet d s, rfl, controlSet_level s.toBlock d, ?_,
    fun c => ?_⟩
  · obtain ⟨n, x, y, hframe⟩ := controlSet_sameRegisters s.toBlock d
    simp [hframe]
  · simp only [answer_toBlock, withBlock_toBlock, ← triggered_eq]
    by_cases hactive : c ∈ activeChannels (s.controlSet d).mode32
    · rw [if_pos ((isActive_iff _ c).mpr hactive), controlSet_chan_of_active hactive, pulsed_eq, bit_eq_chanBit]
      exact ⟨rfl, rfl, controlSet_part_of_active hactive, rfl, rfl, rfl⟩
    · rw [if_neg (mt (isActive_iff _ c).mp hactive), controlSet_chan_of_inactive hactive]
      exact ⟨rfl, rfl, rfl, rfl, rfl⟩

end Sys2Proof.Machine
end

section
/-! SUPPORT. The operations of the counter data registers: each is one read or one store of a word, or nothing, under the
register's own command word (41_counter_data_regs.md). -/

namespace Sys2Proof.Machine

/-- Settles O2: each of the three reads is `readsAs` of its own stored word, whatever the counters do. -/
theorem counterDataReads : Obligations.CounterDataReads := fun _ =>
  ⟨answers_rd (r := .counter) rfl, answers_rd (r := .matchReg) rfl, answers_rd (r := .captureReg) rfl⟩

/-- Settles O11: COUNTER and MATCH are each one store of the whole word, with no mask and no guard on the run state;
CAPTURE is read-only, so its write leaves the block it found. -/
theorem counterDataWrites : Obligations.CounterDataWrites := fun _ _ =>
  ⟨answers_wr (r := .counter) rfl, answers_wr (r := .matchReg) rfl, answers_wr (r := .captureReg) rfl⟩

end Sys2Proof.Machine
end

section
/-! SUPPORT. The operations of the event registers, stated once for every action and each of the three kinds of register,
and the refusal of every tick after a reserved event code is stored (42_event_regs.md, 45_tick_events.md R261). -/

namespace Sys2Proof

theorem Action.mem_all (a : Action) : a ∈ Action.all := by
  cases a <;> decide

theorem Channel.mem_all (c : Channel) : c ∈ Channel.all := by
  cases c <;> decide

end Sys2Proof

namespace Sys2Proof.Machine

open Sys2Proof.Claims

/-! ### What a read and a write of an event register do, for every action -/

theorem exec_rd_sel (a : Action) (s : State) : exec (rdInstr (.evt a .sel)) s = readsAs (s.evtSel.get a) s := by
  cases a <;> rfl

theorem exec_rd_and (a : Action) (s : State) : exec (rdInstr (.evt a .and)) s = readsAs (s.evtAnd.get a) s := by
  cases a <;> rfl

theorem exec_rd_or (a : Action) (s : State) : exec (rdInstr (.evt a .or)) s = readsAs (s.evtOr.get a) s := by
  cases a <;> rfl

/-- A select register stores the implemented bits of the word (42_event_regs.md R430). -/
theorem exec_wr_sel (a : Action) (d : Word) (s : State) :
    exec (wrInstr d (.evt a .sel)) s =
      leavesBlock { s.toBlock with evtSel := s.evtSel.set a (d &&& selMask) } s := by
  cases a <;> rfl

/-- An AND-event register stores the implemented bits of the word (42_event_regs.md R430). -/
theorem exec_wr_and (a : Action) (d : Word) (s : State) :
    exec (wrInstr d (.evt a .and)) s =
      leavesBlock { s.toBlock with evtAnd := s.evtAnd.set a (d &&& combMask) } s := by
  cases a <;> rfl

/-- An OR-event register stores the implemented bits of the word (42_event_regs.md R430). -/
theorem exec_wr_or (a : Action) (d : Word) (s : State) :
    exec (wrInstr d (.evt a .or)) s =
      leavesBlock { s.toBlock with evtOr := s.evtOr.set a (d &&& combMask) } s := by
  cases a <;> rfl

/-- The event registers of an action have no bit outside their masks (10_state.md R59 b). -/
theorem events_masked_of_inv {b : Block} (h : b.Inv) (a : Action) :
    b.evtSel.get a &&& ~~~selMask = 0 ∧ b.evtAnd.get a &&& ~~~combMask = 0 ∧
      b.evtOr.get a &&& ~~~combMask = 0 := by
  obtain ⟨-, -, hevents⟩ := h
  exact hevents a a.mem_all

/-! ### The reads -/

/-- Settles O5: each read is that of its action, and the invariant bounds every action's register. -/
theorem selectReads : Obligations.SelectReads := by
  intro s
  have hread (a : Action) := answers_rd (exec_rd_sel a s)
  exact ⟨hread .start, hread .stop, hread .cont, hread .halt, hread .increment, hread .capture, hread .interrupt,
    hread .output, fun hinv a => let ⟨hsel, _, _⟩ := events_masked_of_inv hinv a; hsel⟩

/-- Settles O6: each read is that of its action, and the invariant bounds every action's register. -/
theorem andReads : Obligations.AndReads := by
  intro s
  have hread (a : Action) := answers_rd (exec_rd_and a s)
  exact ⟨hread .start, hread .stop, hread .cont, hread .halt, hread .increment, hread .capture, hread .interrupt,
    hread .output, fun hinv a => let ⟨_, hand, _⟩ := events_masked_of_inv hinv a; hand⟩

/-- Settles O7: each read is that of its action, and the invariant bounds every action's register. -/
theorem orReads : Obligations.OrReads := by
  intro s
  have hread (a : Action) := answers_rd (exec_rd_or a s)
  exact ⟨hread .start, hread .stop, hread .cont, hread .halt, hread .increment, hread .capture, hread .interrupt,
    hread .output, fun hinv a => let ⟨_, _, hor⟩ := events_masked_of_inv hinv a; hor⟩

/-! ### The writes of the combiner registers -/

/-- Settles O9: each write is that of its action, one store of the implemented bits. -/
theorem andWrites : Obligations.AndWrites := by
  intro d s
  have hwrite (a : Action) := answers_wr (exec_wr_and a d s)
  exact ⟨hwrite .start, hwrite .stop, hwrite .cont, hwrite .halt, hwrite .increment, hwrite .capture,
    hwrite .interrupt, hwrite .output⟩

/-- Settles O10: each write is that of its action, one store of the implemented bits. -/
theorem orWrites : Obligations.OrWrites := by
  intro d s
  have hwrite (a : Action) := answers_wr (exec_wr_or a d s)
  exact ⟨hwrite .start, hwrite .stop, hwrite .cont, hwrite .halt, hwrite .increment, hwrite .capture,
    hwrite .interrupt, hwrite .output⟩

/-! ### Reserved event codes and the refusal of a tick -/

/-- The reserved codes are those from 39 on, by the table of the 64 codes (45_tick_events.md R264). -/
theorem Event.ofCode_eq_none_iff : ∀ code : BitVec 6, Event.ofCode code = none ↔ 39 ≤ code.toNat := by
  decide

/-- The field of the statements is the model's `EV_c` (10_state.md R50). -/
theorem field_eq_toNat_eventField (w : Word) (c : Channel) : field w 0 6 c = (eventField w c).toNat := by
  cases c <;> simp [field, eventField, idx, Channel.shift, Config.counterOffset, Nat.shiftRight_eq_div_pow]

/-- Both event fields of a select register are implemented in full (10_state.md R50). -/
theorem eventField_and_selMask (d : Word) (c : Channel) : eventField (d &&& selMask) c = eventField d c := by
  have hfull : eventField selMask c = BitVec.allOnes 6 := by cases c <;> decide
  calc eventField (d &&& selMask) c = eventField d c &&& eventField selMask c := BitVec.extractLsb'_and
    _ = eventField d c := by rw [hfull, BitVec.and_allOnes]

theorem anyReservedCode_iff (b : Block) : b.anyReservedCode = true ↔ ∃ a c, 39 ≤ eventCode b a c := by
  simp [Block.anyReservedCode, List.any_eq_true, Action.mem_all, Channel.mem_all, Event.ofCode_eq_none_iff,
    eventCode, field_eq_toNat_eventField]

/-- A tick is refused while any select field holds a reserved code (45_tick_events.md R261 b). -/
theorem exec_tick_refused_of_reservedCode {s : State} {a : Action} {c : Channel}
    (h : 39 ≤ eventCode s.toBlock a c) (inp : BitVec 4) : ∃ why, exec (.tick inp) s = .refused why := by
  have hany : s.anyReservedCode = true := (anyReservedCode_iff _).mpr ⟨a, c, h⟩
  change ∃ why, execTick inp s = .refused why
  cases hsync : s.anySyncEn <;> simp [execTick, Block.tickRefusal, hsync, hany]

/-! ### The writes of the select registers -/

/-- The code a write leaves in the select register of its action is the one written (42_event_regs.md R480). -/
theorem eventCode_set_evtSel (b : Block) (a : Action) (d : Word) (c : Channel) :
    eventCode { b with evtSel := b.evtSel.set a (d &&& selMask) } a c = field d 0 6 c := by
  rw [eventCode, actionRegs_get_set_same, field_eq_toNat_eventField, eventField_and_selMask,
    field_eq_toNat_eventField]

/-- Settles O8: each write is that of its action, and a reserved code it stores refuses every tick. -/
theorem selectWrites : Obligations.SelectWrites := by
  intro d s
  have hwrite (a : Action) := answers_wr (exec_wr_sel a d s)
  refine ⟨hwrite .start, hwrite .stop, hwrite .cont, hwrite .halt, hwrite .increment, hwrite .capture,
    hwrite .interrupt, hwrite .output, fun hreserved a => ⟨_, exec_wr_sel a d s, ?_⟩⟩
  obtain ⟨c, hc⟩ : ∃ c, 39 ≤ field d 0 6 c := hreserved.elim (⟨.c0, ·⟩) (⟨.c1, ·⟩)
  exact exec_tick_refused_of_reservedCode (a := a) (c := c) (hc.trans_eq (eventCode_set_evtSel _ a d c).symm)

end Sys2Proof.Machine
end

section
/-! SUPPORT. The reads and the plain stores of the OCU, WFG and ADC-select registers, and when a tick is performed
(43_ocu_wfg_regs.md, 45_tick_events.md R261). -/

namespace Sys2Proof.Machine

open Sys2Proof.Claims

/-! ### The reads -/

/-- The stored OCU, WFG and ADC-select words have no bit outside their masks (10_state.md R59 b). -/
theorem ocu_masked_of_inv {b : Block} (h : b.Inv) :
    b.ocuCtrl &&& ~~~ocuMask = 0 ∧ b.wfgCtrl &&& ~~~wfgMask = 0 ∧ b.adcSel &&& ~~~adcMask = 0 := by
  obtain ⟨-, ⟨-, -, -, hocu, hwfg, hadc⟩, -⟩ := h
  exact ⟨hocu, hwfg, hadc⟩

/-- Settles O3: each read is `readsAs` of its own stored word, and the invariant bounds the three masked ones. -/
theorem ocuReads : Obligations.OcuReads := fun _ =>
  ⟨answers_rd (r := .ocuCtrl) rfl, answers_rd (r := .ocuCompare) rfl, answers_rd (r := .ocuCompareNxt) rfl,
    answers_rd (r := .wfgCtrl) rfl, answers_rd (r := .adcSel) rfl, ocu_masked_of_inv⟩

/-! ### Channel synchronization and the refusal of a tick -/

/-- A tick is refused while some `SYNC_EN_c` is set (45_tick_events.md R261 a). -/
theorem exec_tick_refused_of_syncEn {s : State} {c : Channel} (h : s.syncEn c = true) (inp : BitVec 4) :
    ∃ why, exec (.tick inp) s = .refused why := by
  have hsync : s.anySyncEn = true := by cases c <;> simp [Block.anySyncEn, h]
  exact ⟨.channelSync, by change execTick inp s = _; simp [execTick, Block.tickRefusal, hsync]⟩

/-- Both `SYNC_EN_c` bits are implemented (10_state.md R44). -/
theorem chanBit_and_ocuMask_syncEn (d : Word) (c : Channel) :
    chanBit (d &&& ocuMask) syncEnBit c = chanBit d syncEnBit c := by
  have hset : chanBit ocuMask syncEnBit c = true := by cases c <;> decide
  calc chanBit (d &&& ocuMask) syncEnBit c = (chanBit d syncEnBit c && chanBit ocuMask syncEnBit c) :=
        BitVec.getLsbD_and
    _ = chanBit d syncEnBit c := by rw [hset, Bool.and_true]

/-! ### The stores -/

/-- Settles O12: each write is one store under its mask, and a `SYNC_EN_c` bit that OCU_CTRL stores refuses every
tick. -/
theorem ocuStores : Obligations.OcuStores := by
  intro d s
  refine ⟨answers_wr (r := .ocuCtrl) rfl, answers_wr (r := .ocuCompare) rfl, answers_wr (r := .wfgCtrl) rfl,
    answers_wr (r := .adcSel) rfl, fun hsync => ⟨_, rfl, ?_⟩⟩
  obtain ⟨c, hc⟩ : ∃ c, chanBit d syncEnBit c = true := hsync.elim (⟨.c0, ·⟩) (⟨.c1, ·⟩)
  exact exec_tick_refused_of_syncEn (c := c) ((chanBit_and_ocuMask_syncEn d c).trans hc)

end Sys2Proof.Machine
end

section
/-! SUPPORT. The write of OCU_COMPARE_NXT: what it does to each channel and what it leaves alone
(43_ocu_wfg_regs.md R218). -/

namespace Sys2Proof.Machine
open Sys2Proof.Claims

/-! ### The compare value of one channel -/

@[simp] theorem bufferCompare_bufEn (d : Word) (b : Block) (c c' : Channel) :
    (b.bufferCompare d c).bufEn c' = b.bufEn c' := by
  simp [Block.bufEn]

@[simp] theorem bufferCompare_mode32 (d : Word) (b : Block) (c : Channel) :
    (b.bufferCompare d c).mode32 = b.mode32 := by
  simp [Block.mode32]

/-- A pending compare value is noted in its own channel, where buffering is on (43_ocu_wfg_regs.md R218). -/
theorem bufferCompare_chan (d : Word) (b : Block) (c c' : Channel) :
    (b.bufferCompare d c).chan c' =
      if c' = c ∧ b.bufEn c then { b.chan c' with nxtValid := true } else b.chan c' := by
  cases h : b.bufEn c with
  | false => rw [bufferCompare_through d b c h, if_neg (by simp)]; cases c' <;> rfl
  | true => rw [bufferCompare_pending d b c h]; cases c <;> cases c' <;> rfl

/-- A compare value is written through where buffering is off (43_ocu_wfg_regs.md R218). -/
theorem bufferCompare_ocuCompare (d : Word) (b : Block) (c : Channel) :
    (b.bufferCompare d c).ocuCompare =
      if b.bufEn c then b.ocuCompare else putSlice b.mode32 b.ocuCompare c (slice b.mode32 d c) := by
  cases h : b.bufEn c with
  | false => rw [bufferCompare_through d b c h]; rfl
  | true => simp [bufferCompare_pending d b c h]

/-- The active threshold of a channel after its compare value is written (43_ocu_wfg_regs.md R218). -/
theorem slice_bufferCompare_same (d : Word) (b : Block) (c : Channel) :
    slice b.mode32 (b.bufferCompare d c).ocuCompare c =
      if b.bufEn c then slice b.mode32 b.ocuCompare c else slice b.mode32 d c := by
  rw [bufferCompare_ocuCompare]
  split_ifs
  · rfl
  · exact slice_putSlice_fits (fits_slice _ _ _) _ _

/-- In 16-bit mode the compare value of one channel leaves the threshold of the other (43_ocu_wfg_regs.md R218). -/
theorem slice_bufferCompare_other {b : Block} (hm : b.mode32 = false) (d : Word) (c : Channel) :
    slice false (b.bufferCompare d c).ocuCompare c.other = slice false b.ocuCompare c.other := by
  rw [bufferCompare_ocuCompare, hm]
  split_ifs
  · rfl
  · exact slice_putSlice_other _ _ _

/-! ### The compare values of the active channels, by channel -/

/-- A pending value is noted in the active channels with buffering on (43_ocu_wfg_regs.md R218). -/
theorem bufferCompares_chan (d : Word) (b : Block) (c : Channel) :
    ((activeChannels b.mode32).foldl (Block.bufferCompare d) b).chan c =
      if c ∈ activeChannels b.mode32 ∧ b.bufEn c then { b.chan c with nxtValid := true } else b.chan c := by
  cases b.mode32 <;> cases c <;> simp [activeChannels, bufferCompare_chan, -chan_c0, -chan_c1]

/-- The threshold of an active channel is written through without buffering and kept with it
(43_ocu_wfg_regs.md R218). -/
theorem slice_bufferCompares {b : Block} {c : Channel} (hactive : c ∈ activeChannels b.mode32) (d : Word) :
    slice b.mode32 ((activeChannels b.mode32).foldl (Block.bufferCompare d) b).ocuCompare c =
      if b.bufEn c then slice b.mode32 b.ocuCompare c else slice b.mode32 d c := by
  have hsame₀ := slice_bufferCompare_same d b .c0
  cases hm : b.mode32 with
  | true =>
    obtain rfl : c = .c0 := by simpa [mem_activeChannels, hm] using hactive
    rwa [hm] at hsame₀
  | false =>
    have hm₀ : (b.bufferCompare d .c0).mode32 = false := (bufferCompare_mode32 d b .c0).trans hm
    rw [hm] at hsame₀
    cases c with
    | c0 => exact (slice_bufferCompare_other hm₀ d .c1).trans hsame₀
    | c1 =>
      have hkept := slice_bufferCompare_other hm d .c0
      have hsame₁ := slice_bufferCompare_same d (b.bufferCompare d .c0) .c1
      rw [hm₀, bufferCompare_bufEn] at hsame₁
      exact hsame₁.trans (congrArg (if b.bufEn .c1 then · else slice false d .c1) hkept)

/-! ### The write of OCU_COMPARE_NXT -/

/-- The block after a write of OCU_COMPARE_NXT (43_ocu_wfg_regs.md R218). -/
def Block.writeNextCompare (b : Block) (d : Word) : Block :=
  (activeChannels b.mode32).foldl (Block.bufferCompare d) { b with ocuCompareNxt := d }

theorem exec_wrOcuCompareNxt (d : Word) (s : State) :
    exec (.wrOcuCompareNxt d) s = leavesBlock (s.writeNextCompare d) s := rfl

/-- `b'` is `b` but for the active thresholds, the status word and the two `NXT_VALID_c`. -/
def SameButCompareBuffer (b b' : Block) : Prop :=
  ∃ compare sts valid0 valid1, b' = { b with
    ocuCompare := compare, sts := sts, ch0 := { b.ch0 with nxtValid := valid0 },
    ch1 := { b.ch1 with nxtValid := valid1 } }

theorem SameButCompareBuffer.refl (b : Block) : SameButCompareBuffer b b := ⟨_, _, _, _, rfl⟩

theorem SameButCompareBuffer.bufferCompare {b b' : Block} (h : SameButCompareBuffer b b') (d : Word)
    (c : Channel) : SameButCompareBuffer b (b'.bufferCompare d c) := by
  obtain ⟨compare, sts, valid0, valid1, rfl⟩ := h
  unfold Block.bufferCompare
  split_ifs
  · cases c <;> exact ⟨_, _, _, _, rfl⟩
  · exact ⟨_, _, _, _, rfl⟩

/-- The write stores its word and leaves every element but the thresholds, the status word and the two `NXT_VALID_c`
(43_ocu_wfg_regs.md R218). -/
theorem writeNextCompare_frame (b : Block) (d : Word) :
    SameButCompareBuffer { b with ocuCompareNxt := d } (b.writeNextCompare d) :=
  List.foldlRecOn _ _ (SameButCompareBuffer.refl _) fun _ h c _ => h.bufferCompare d c

/-- Of the status bits the write touches only the two `FIFO_FULL_c` (43_ocu_wfg_regs.md R218). -/
theorem writeNextCompare_sts_getLsbD (b : Block) (d : Word) {n : Nat} (h1 : n ≠ 1) (h17 : n ≠ 17) :
    (b.writeNextCompare d).sts.getLsbD n = b.sts.getLsbD n := by
  refine List.foldlRecOn (motive := fun b' : Block => b'.sts.getLsbD n = b.sts.getLsbD n) _ _ rfl fun b' h c _ => ?_
  have hn : n ≠ causeIndex .fifoFull c := by
    cases c
    · exact h1
    · exact h17
  rw [bufferCompare_sts, raiseCause_getLsbD, h]
  simp [hn]

/-- The write notes a pending value in the active channels with buffering on, and touches no other one-bit element
(43_ocu_wfg_regs.md R218). -/
theorem writeNextCompare_chan (b : Block) (d : Word) (c : Channel) :
    (b.writeNextCompare d).chan c =
      if c ∈ activeChannels b.mode32 ∧ b.bufEn c then { b.chan c with nxtValid := true } else b.chan c := by
  cases c <;> exact bufferCompares_chan d { b with ocuCompareNxt := d } _

/-- The number of an active channel's threshold after the write (43_ocu_wfg_regs.md R218). -/
theorem part_writeNextCompare {b : Block} {c : Channel} (hactive : c ∈ activeChannels b.mode32) (d : Word) :
    part b.mode32 (b.writeNextCompare d).ocuCompare c =
      if b.bufEn c then part b.mode32 b.ocuCompare c else part b.mode32 d c := by
  simp only [part_eq_toNat_slice, ← apply_ite BitVec.toNat]
  exact congrArg BitVec.toNat (slice_bufferCompares (b := { b with ocuCompareNxt := d }) hactive d)

/-- `FIFO_FULL_c` is raised where an active channel overruns (43_ocu_wfg_regs.md R218). -/
theorem bit_fifoFull_writeNextCompare (b : Block) (d : Word) (c : Channel) :
    bit (b.writeNextCompare d).sts 1 c =
      (bit b.sts 1 c || (b.overruns c && decide (c ∈ activeChannels b.mode32))) := by
  rw [bit_one_eq_pending, bit_one_eq_pending]
  cases c <;> exact pending_fifoFull_bufferCompares d { b with ocuCompareNxt := d } b.mode32 _

theorem bit_bufEn (b : Block) (c : Channel) : bit b.level 7 c = b.bufEn c :=
  bit_eq_chanBit b.level bufEnBit c

theorem bit_dmaEn (b : Block) (c : Channel) : bit b.ocuCtrl 4 c = b.dmaEn c :=
  bit_eq_chanBit b.ocuCtrl dmaEnBit c

/-- Settles O16: the frame of the write, and each channel by its activity and its `BUF_EN_c`. -/
theorem nextCompareWrite : Obligations.NextCompareWrite := by
  intro d s
  obtain ⟨compare, sts, valid0, valid1, hframe⟩ := writeNextCompare_frame s.toBlock d
  refine ⟨encode_wrInstr d .ocuCompareNxt, _, exec_wrOcuCompareNxt d s, rfl, ?_, ?_,
    fun n h1 h17 => writeNextCompare_sts_getLsbD s.toBlock d h1 h17, fun c => ⟨?_, ?_⟩⟩
  · simp [hframe]
  · simp [hframe]
  · cases c <;> simp [hframe]
  · simp only [answer_toBlock, withBlock_toBlock, bit_bufEn, bit_dmaEn, bit_fifoFull_writeNextCompare,
      writeNextCompare_chan, Block.overruns]
    by_cases hactive : c ∈ activeChannels s.mode32
    · rw [if_pos ((isActive_iff _ c).mpr hactive)]
      have hpart := part_writeNextCompare hactive d
      cases hbuf : s.bufEn c with
      | true =>
        rw [hbuf] at hpart
        exact ⟨hpart, by simp [hactive], by simp [hactive]⟩
      | false =>
        rw [hbuf] at hpart
        exact ⟨hpart, by simp, by simp⟩
    · rw [if_neg (mt (isActive_iff _ c).mp hactive)]
      simp [hactive]

end Sys2Proof.Machine
end

section
/-! SUPPORT. The events, the firing and the counting of a tick in the numbers and bits of the statements
(45_tick_events.md R261 to R268, 46_tick_counting.md R290 to R300). -/

namespace Sys2Proof.Machine

open Sys2Proof.Claims

/-! ### When a tick is performed -/

/-- The mask of R261 is the two `SYNC_EN_c` bits. -/
theorem anySyncEn_eq_false_iff (b : Block) : b.anySyncEn = false ↔ b.ocuCtrl &&& 0x00020002#32 = 0 := by
  have hmask : 0x00020002#32 = BitVec.twoPow 32 1 ||| BitVec.twoPow 32 17 := by decide
  have hbits : b.anySyncEn = (b.ocuCtrl.getLsbD 1 || b.ocuCtrl.getLsbD 17) := rfl
  rw [hbits, hmask, BitVec.and_or_distrib_left, BitVec.and_twoPow, BitVec.and_twoPow]
  cases b.ocuCtrl.getLsbD 1 <;> cases b.ocuCtrl.getLsbD 17 <;> decide

/-- No select field holds a reserved code when all sixteen codes of the statements are below 39
(45_tick_events.md R261 b). -/
theorem anyReservedCode_eq_false_iff (b : Block) :
    b.anyReservedCode = false ↔ ∀ a ∈ Action.all, eventCode b a .c0 < 39 ∧ eventCode b a .c1 < 39 := by
  rw [← Bool.not_eq_true, anyReservedCode_iff]
  push Not
  exact ⟨fun h a _ => ⟨h a .c0, h a .c1⟩, fun h a c => by
    obtain ⟨h0, h1⟩ := h a a.mem_all
    cases c
    · exact h0
    · exact h1⟩

/-- A tick is performed where the statements allow it, and refused elsewhere (45_tick_events.md R261). -/
theorem tickRefusal_eq_none_iff (b : Block) : b.tickRefusal = none ↔ Allowed b := by
  rw [Allowed, ← anySyncEn_eq_false_iff, ← anyReservedCode_eq_false_iff, Block.tickRefusal]
  cases b.anySyncEn <;> cases b.anyReservedCode <;> simp

/-- A tick that is allowed leaves the block of `Block.tick` (45_tick_events.md R260). -/
theorem exec_tick_of_allowed {s : State} (h : Allowed s.toBlock) (inp : BitVec 4) :
    exec (.tick inp) s = leavesBlock (s.tick inp) s := by
  change execTick inp s = _
  rw [execTick, (tickRefusal_eq_none_iff _).mpr h]

/-! ### Lines and combiners -/

theorem rise_eq (b : Block) (inp : BitVec 4) {i : Nat} (hi : i < 4) :
    rise b inp i = (b.sample inp).rise.getLsbD i := by
  simp [rise, Block.sample, hi]

theorem fall_eq (b : Block) (inp : BitVec 4) {i : Nat} (hi : i < 4) :
    fall b inp i = (b.sample inp).fall.getLsbD i := by
  simp [fall, Block.sample, hi]

/-- A bit of a channel's four-bit field, by its position in the word (00_scope.md R8). -/
theorem bit_add_eq_getLsbD (w : Word) (p : Nat) (c : Channel) {i : Nat} (hi : i < 4) :
    bit w (p + i) c = (w.extractLsb' (p + c.shift) 4).getLsbD i := by
  have hpos : p + i + 16 * idx c = p + c.shift + i := by
    cases c <;> simp only [idx, Channel.shift, Config.counterOffset] <;> omega
  rw [bit, hpos, BitVec.getLsbD_extractLsb', decide_eq_true hi, Bool.true_and]

theorem valid_eq (w : Word) (c : Channel) {i : Nat} (hi : i < 4) : valid w c i = (validField w c).getLsbD i :=
  bit_add_eq_getLsbD w 8 c hi

theorem required_eq (w : Word) (c : Channel) {i : Nat} (hi : i < 4) :
    required w c i = (levelField w c).getLsbD i := by
  simpa [required, levelField] using bit_add_eq_getLsbD w 0 c hi

/-- A field of four lines is 0 when no line of it is set. -/
theorem lines_eq_zero : ∀ v : BitVec 4,
    (v == 0#4) = !(v[0] || v[1] || v[2] || v[3]) := by
  decide

/-- The AND combiner of the statements is the model's (45_tick_events.md R266). -/
theorem andOut_eq (b : Block) (inp : BitVec 4) (a : Action) (c : Channel) :
    andOut b inp a c = andCombiner (b.evtAnd.get a) c inp := by
  simp [andOut, andCombiner, agreeing, bne, valid_eq, required_eq, lines_eq_zero, Bool.or_assoc]

/-- The OR combiner of the statements is the model's (45_tick_events.md R267). -/
theorem orOut_eq (b : Block) (inp : BitVec 4) (a : Action) (c : Channel) :
    orOut b inp a c = orCombiner (b.evtOr.get a) c inp := by
  simp [orOut, orCombiner, agreeing, bne, valid_eq, required_eq, lines_eq_zero, Bool.or_assoc]

/-! ### The table of the event codes -/

/-- The code of an event (45_tick_events.md R264). -/
def Event.code : Event → Nat
  | .never => 0
  | .rising i => 1 + i
  | .falling i => 5 + i
  | .eitherEdge i => 9 + i
  | .low i => 13 + i
  | .high i => 17 + i
  | .andEvent => 21
  | .orEvent => 22
  | .risingAnd i => 23 + 2 * i
  | .risingOr i => 24 + 2 * i
  | .registeredAnd i => 31 + 2 * i
  | .registeredOr i => 32 + 2 * i

/-- An event is named by its own code (45_tick_events.md R264). -/
theorem Event.code_of_ofCode : ∀ code : BitVec 6, ∀ e ∈ Event.ofCode code, e.code = code.toNat := by
  decide

/-- The row of the table for the code of an event says when the event occurs (45_tick_events.md R264). -/
theorem ev_code (b : Block) (inp : BitVec 4) (andO orO : Bool) (e : Event) :
    ev b inp andO orO e.code = e.occurs (b.sample inp) andO orO := by
  cases e with
  | never => rfl
  | andEvent => rfl
  | orEvent => rfl
  | rising i =>
    rw [Event.occurs, ← rise_eq b inp i.isLt]
    fin_cases i <;> rfl
  | falling i =>
    rw [Event.occurs, ← fall_eq b inp i.isLt]
    fin_cases i <;> rfl
  | eitherEdge i =>
    rw [Event.occurs, ← rise_eq b inp i.isLt, ← fall_eq b inp i.isLt]
    fin_cases i <;> rfl
  | risingAnd i =>
    rw [Event.occurs, ← rise_eq b inp i.isLt]
    fin_cases i <;> rfl
  | risingOr i =>
    rw [Event.occurs, ← rise_eq b inp i.isLt]
    fin_cases i <;> rfl
  | low i | high i | registeredAnd i | registeredOr i => fin_cases i <;> rfl

/-- A reserved code has no row (45_tick_events.md R264). -/
theorem ev_of_reserved (b : Block) (inp : BitVec 4) (andO orO : Bool) {n : Nat} (h : 39 ≤ n) :
    ev b inp andO orO n = false := by
  obtain ⟨k, rfl⟩ := Nat.exists_eq_add_of_le' h
  rfl

/-- The selected event of the statements is the model's, reserved codes included (45_tick_events.md R264). -/
theorem ev_eventCode (b : Block) (inp : BitVec 4) (a : Action) (c : Channel) (andO orO : Bool) :
    ev b inp andO orO (eventCode b a c) = selectedEvent b (b.sample inp) a c andO orO := by
  rw [eventCode, field_eq_toNat_eventField, selectedEvent]
  cases h : Event.ofCode (eventField (b.evtSel.get a) c) with
  | none => exact ev_of_reserved b inp andO orO ((Event.ofCode_eq_none_iff _).mp h)
  | some e =>
    rw [← Event.code_of_ofCode _ e h]
    exact ev_code b inp andO orO e

/-- The firing of the statements is the model's (45_tick_events.md R268). -/
theorem fire_eq (b : Block) (inp : BitVec 4) (a : Action) (c : Channel) :
    fire b inp a c = fires b (b.sample inp) a c := by
  rw [fire, andOut_eq, orOut_eq, ev_eventCode]
  rfl

/-! ### Counting -/

theorem field_eq_toNat_validField (w : Word) (c : Channel) : field w 8 4 c = (validField w c).toNat := by
  cases c <;> simp [field, validField, idx, Channel.shift, Config.counterOffset, Nat.shiftRight_eq_div_pow]

/-- Equality of two words is that of their numbers. -/
theorem toNat_beq_toNat {n : Nat} (v w : BitVec n) : (v.toNat == w.toNat) = (v == w) := by
  rw [Bool.eq_iff_iff, beq_iff_eq, beq_iff_eq, BitVec.toNat_inj]

/-- A field is not 0 exactly when its number is not. -/
theorem toNat_bne_zero {n : Nat} (v : BitVec n) : (v.toNat != 0) = (v != 0) :=
  congrArg (!·) (toNat_beq_toNat v 0)

/-- Whether the increment action is configured, in the statements and in the model (46_tick_counting.md R292). -/
theorem incCfg_eq (b : Block) (c : Channel) : incCfg b c = b.incConfigured c := by
  simp only [incCfg, eventCode, field_eq_toNat_eventField, field_eq_toNat_validField, toNat_bne_zero]
  rfl

/-- Whether a tick counts, in the statements and in the model (46_tick_counting.md R291). -/
theorem counting_eq (b : Block) (inp : BitVec 4) (c : Channel) :
    counting b inp c = b.counting (b.sample inp) c := by
  rw [counting, enable, incCfg_eq, fire_eq]
  rfl

theorem cnt_eq_toNat_count (b : Block) (c : Channel) : cnt b c = (b.count c).toNat :=
  part_eq_toNat_slice _ _ _

theorem mat_eq_toNat_matchValue (b : Block) (c : Channel) : mat b c = (b.matchValue c).toNat :=
  part_eq_toNat_slice _ _ _

/-! ### The period boundary -/

theorem stepUp_boundary (top mat cnt : Word) : (stepUp top mat cnt).boundary = (cnt == mat) := by
  unfold stepUp
  split_ifs with hmat htop
  · exact (beq_iff_eq.mpr hmat).symm
  · exact (beq_eq_false_iff_ne.mpr hmat).symm
  · exact (beq_eq_false_iff_ne.mpr hmat).symm

theorem stepDown_boundary (mat cnt : Word) : (stepDown mat cnt).boundary = (cnt == 0) := by
  unfold stepDown
  split_ifs with hzero
  · exact (beq_iff_eq.mpr hzero).symm
  · exact (beq_eq_false_iff_ne.mpr hzero).symm

theorem stepAscending_boundary (top mat cnt : Word) : (stepAscending top mat cnt).boundary = false := by
  unfold stepAscending
  split_ifs <;> rfl

theorem stepDescending_boundary (periodic : Bool) (mat cnt : Word) :
    (stepDescending periodic mat cnt).boundary = (cnt == 0) := by
  unfold stepDescending
  split
  next hzero => exact (beq_iff_eq.mpr hzero).symm
  next hzero => exact (beq_eq_false_iff_ne.mpr hzero).symm

/-- The boundaries of a counting tick, by direction (46_tick_counting.md R300). -/
theorem stepCount_boundary (dir : Direction) (periodic phase : Bool) (top mat cnt : Word) :
    (stepCount dir periodic phase top mat cnt).boundary =
      match dir with
      | .up => cnt == mat
      | .down => cnt == 0
      | .upDown => phase && cnt == 0 := by
  cases dir with
  | up => exact stepUp_boundary top mat cnt
  | down => exact stepDown_boundary mat cnt
  | upDown =>
    cases phase with
    | false => exact stepAscending_boundary top mat cnt
    | true => exact stepDescending_boundary periodic mat cnt

/-- The direction of a channel, by the number of its field (10_state.md R29). -/
theorem direction_eq (b : Block) (c : Channel) :
    b.direction c = if dir b c = 2 then .down else if dir b c = 3 then .upDown else .up := by
  simp only [dir_eq_toNat, Block.direction, Direction.ofBits, ← BitVec.toNat_inj]
  rfl

/-- The period boundary of the statements is the model's (46_tick_counting.md R300). -/
theorem boundary_eq (b : Block) (inp : BitVec 4) (c : Channel) :
    boundary b inp c = (b.countStep (b.sample inp) c).boundary := by
  rw [boundary, counting_eq, Block.countStep]
  cases b.counting (b.sample inp) c with
  | false => rfl
  | true =>
    have hzero : (cnt b c == 0) = (b.count c == 0) := by
      rw [cnt_eq_toNat_count]
      exact toNat_beq_toNat _ 0#32
    rw [if_pos rfl, Bool.true_and, hzero, stepCount_boundary, direction_eq, cnt_eq_toNat_count,
      mat_eq_toNat_matchValue, toNat_beq_toNat]
    split_ifs <;> rfl

end Sys2Proof.Machine
end

section
/-! SUPPORT. The DMA request outputs: their value, and how a write of OCU_COMPARE_NXT and the commit of a tick change
them (43_ocu_wfg_regs.md R226). -/

namespace Sys2Proof.Machine

open Sys2Proof.Claims

/-- A request is high for an active channel in DMA mode with no pending value (43_ocu_wfg_regs.md R226). -/
theorem dmaReq_eq (b : Block) (c : Channel) :
    dmaReq b c = (isActive b c && (b.dmaEn c && !(b.chan c).nxtValid)) := by
  cases c <;> rfl

/-- A write of OCU_COMPARE_NXT changes neither which channels are active nor their `DMA_EN_c`: the request after it
follows from the pending value alone. -/
theorem writeNextCompare_dmaReq (b : Block) (d : Word) (c : Channel) :
    dmaReq (b.writeNextCompare d) c =
      (isActive b c && (b.dmaEn c && !((b.writeNextCompare d).chan c).nxtValid)) := by
  obtain ⟨compare, sts, valid0, valid1, hframe⟩ := writeNextCompare_frame b d
  rw [dmaReq_eq, hframe]
  rfl

/-- A buffered write drops the request of an active channel (43_ocu_wfg_regs.md R226). -/
theorem dmaReq_writeNextCompare_buffered {b : Block} {c : Channel} (hactive : isActive b c = true)
    (hbuf : b.bufEn c = true) (d : Word) : dmaReq (b.writeNextCompare d) c = false := by
  rw [writeNextCompare_dmaReq, writeNextCompare_chan, if_pos ⟨(isActive_iff b c).mp hactive, hbuf⟩]
  simp

/-- A write that goes through leaves the request (43_ocu_wfg_regs.md R226). -/
theorem dmaReq_writeNextCompare_through {b : Block} {c : Channel} (hbuf : b.bufEn c = false) (d : Word) :
    dmaReq (b.writeNextCompare d) c = dmaReq b c := by
  rw [writeNextCompare_dmaReq, writeNextCompare_chan, if_neg (by simp [hbuf]), dmaReq_eq]

/-- A tick whose boundary commits the pending value of an active channel leaves its request at `DMA_EN_c`
(47_tick_output.md R328). -/
theorem dmaReq_tick_of_commits {b : Block} {inp : BitVec 4} {c : Channel} (hactive : isActive b c = true)
    (hcommit : b.commits (b.sample inp) c = true) : dmaReq (b.tick inp) c = b.dmaEn c := by
  have hchan := tick_chan b inp c ((isActive_iff b c).mp hactive)
  have hstill : isActive (b.tick inp) c = true := by simpa [isActive, mode] using hactive
  have hfree : ((b.tick inp).chan c).nxtValid = false := by simp [hchan, Block.channelTick, hcommit]
  simp [dmaReq_eq, hstill, hfree, Block.dmaEn]

/-- Settles O46: the value by definition, the write by whether it leaves a value pending, and the commit because the
boundary of the statement is the model's. -/
theorem dmaRequests : Obligations.DmaRequests := by
  refine ⟨fun b => ⟨rfl, ?_⟩, fun d s c hactive hbuf => ⟨_, exec_wrOcuCompareNxt d s, ?_⟩,
    fun d s c hbuf => ⟨_, exec_wrOcuCompareNxt d s, ?_⟩, fun inp s c hactive hboundary hbuf hvalid hallowed =>
      ⟨_, exec_tick_of_allowed hallowed inp, ?_⟩⟩
  · exact (Bool.and_assoc _ _ _).symm
  · exact dmaReq_writeNextCompare_buffered hactive (bit_bufEn s.toBlock c ▸ hbuf) d
  · exact dmaReq_writeNextCompare_through (bit_bufEn s.toBlock c ▸ hbuf) d
  · have hcommit : s.commits (s.sample inp) c = true := by
      rw [Block.commits, ← boundary_eq, hboundary, ← bit_bufEn, hbuf, hvalid]
      rfl
    exact (dmaReq_tick_of_commits hactive hcommit).trans (bit_dmaEn s.toBlock c).symm

end Sys2Proof.Machine
end

section
/-! SUPPORT. The operations of the interrupt registers, and the loop of 48_system_ops.md R341 that the statements scan
the causes with (44_interrupt_regs.md, 60_exceptions.md R356). -/

namespace Sys2Proof.Machine

open Sys2Proof.Claims

/-! ### The arbiter's scan as a loop -/

/-- Over any scanning order, the loop stops at the first pending cause (48_system_ops.md R341). -/
theorem serviceLoop_map (order : List (Cause × Channel)) (sts : Word) :
    serviceLoop (order.map fun p => (causeCode p.1 p.2, causeIndex p.1 p.2)) sts =
      (order.find? fun p => pending sts p.1 p.2).elim (0, sts)
        fun p => (causeCode p.1 p.2, sts &&& ~~~(causeWord p.1 p.2)) := by
  induction order with
  | nil => rfl
  | cons p rest ih =>
    have hbit : sts.getLsbD (causeIndex p.1 p.2) = pending sts p.1 p.2 := rfl
    have hword : 1#32 <<< causeIndex p.1 p.2 = causeWord p.1 p.2 := (BitVec.twoPow_eq 32 _).symm
    rw [List.map_cons, serviceLoop, hbit, hword, ih, List.find?_cons]
    cases pending sts p.1 p.2 <;> rfl

/-- The table of the statements lists the causes in the model's order, with their codes and bit numbers
(60_exceptions.md R356). -/
theorem arbiterTable_eq : arbiterTable = arbiterOrder.map fun p => (causeCode p.1 p.2, causeIndex p.1 p.2) := by
  decide

/-- The loop returns the arbiter's cause code and clears the winner's bit (48_system_ops.md R341). -/
theorem serviceLoop_arbiterTable (sts : Word) :
    serviceLoop arbiterTable sts = (arbCause sts, clearWinner sts) := by
  rw [arbiterTable_eq, serviceLoop_map, ← arbiterWinner, arbCause, clearWinner]
  cases arbiterWinner sts <;> rfl

/-! ### The reads -/

/-- The stored status and mask words have no bit outside `CAUSE_BITS` (10_state.md R59 b). -/
theorem interrupt_masked_of_inv {b : Block} (h : b.Inv) :
    b.sts &&& ~~~causeBits = 0 ∧ b.mask &&& ~~~causeBits = 0 := by
  obtain ⟨-, ⟨-, hsts, hmask, -⟩, -⟩ := h
  exact ⟨hsts, hmask⟩

/-- Within the bits of `k`, a word and its complement cover all of `k`. -/
theorem not_and_or_of_masked {w : Nat} {x k : BitVec w} (h : x &&& ~~~k = 0) : ~~~x &&& k ||| x = k := by
  ext i hi
  have hbit : (x[i] && !k[i]) = false := by simpa [hi] using congrArg (fun y => y[i]) h
  cases hx : x[i] <;> simp_all

theorem not_and_and_self {w : Nat} (x k : BitVec w) : ~~~x &&& k &&& x = 0 := by
  ext i hi
  cases hx : x[i] <;> simp [hx]

/-- Settles O4: each read is `readsAs` of its value, the arbiter's code is that of the loop, and under the invariant the
unmasked set and the mask share no cause bit and miss none. -/
theorem interruptReads : Obligations.InterruptReads := by
  intro s
  have harb : (serviceLoop arbiterTable s.sts).1 = arbCause s.sts := by rw [serviceLoop_arbiterTable]
  refine ⟨answers_rd (r := .intrSts) rfl, answers_rd (r := .intrMask) rfl, answers_rd (r := .intrUnmask) rfl,
    answers_rd (r := .intrAck) rfl, harb ▸ answers_rd (r := .arbCause) rfl, fun hinv => ?_⟩
  obtain ⟨hsts, hmask⟩ := interrupt_masked_of_inv hinv
  exact ⟨hsts, not_and_or_of_masked hmask, not_and_and_self _ _⟩

/-! ### The writes -/

/-- Settles O13: the two masks and the acknowledge are each one update under `CAUSE_BITS`; the status and arbiter
registers are read-only, so their writes leave the block they found. -/
theorem interruptWrites : Obligations.InterruptWrites := fun _ _ =>
  ⟨answers_wr (r := .intrSts) rfl, answers_wr (r := .intrMask) rfl, answers_wr (r := .intrUnmask) rfl,
    answers_wr (r := .intrAck) rfl, answers_wr (r := .arbCause) rfl⟩

end Sys2Proof.Machine
end

section
/-! SUPPORT. The refusal of a tick, what a tick leaves alone, and the idle tick (45_tick_events.md R260 to R263). -/

namespace Sys2Proof.Machine

open Sys2Proof.Claims

/-! ### Refusal and completion -/

/-- A tick is refused where the statements do not allow it (45_tick_events.md R261). -/
theorem exec_tick_refused_of_not_allowed {s : State} (h : ¬Allowed s.toBlock) (inp : BitVec 4) :
    ∃ why, exec (.tick inp) s = .refused why := by
  change ∃ why, execTick inp s = _
  rw [execTick]
  cases hwhy : s.tickRefusal with
  | none => exact absurd ((tickRefusal_eq_none_iff _).mp hwhy) h
  | some why => exact ⟨why, rfl⟩

/-- "`RD`, `WR`, `SVC` and `RST` are never refused" (45_tick_events.md R261). -/
theorem exec_completes_of_ne_tick {i : Instr} (h : ∀ inp, i ≠ .tick inp) (s : State) : ∃ t, exec i s = .next t := by
  obtain ⟨v, hread⟩ | ⟨b, hleave⟩ | rfl | ⟨inp, htick⟩ := exec_cases i s
  · exact ⟨_, hread⟩
  · exact ⟨_, hleave⟩
  · exact ⟨_, execSvc_next.mpr rfl⟩
  · exact absurd htick (h inp)

/-- Settles O20: the model's refusal is exactly the two situations of R261, and no other operation has one. -/
theorem tickRefusedExactly : Obligations.TickRefusedExactly :=
  ⟨fun inp _ hforbidden => exec_tick_refused_of_not_allowed hforbidden inp,
    fun inp _ hallowed => ⟨_, exec_tick_of_allowed hallowed inp⟩,
    fun _ s hother => exec_completes_of_ne_tick hother s⟩

/-! ### Actions with no event bound -/

/-- An empty AND is 0 (45_tick_events.md R266). -/
theorem andCombiner_of_no_valid_line {w : Word} {c : Channel} (h : validField w c = 0) (inp : BitVec 4) :
    andCombiner w c inp = false := by
  simp [andCombiner, h]

/-- An OR over no valid line is 0 (45_tick_events.md R267). -/
theorem orCombiner_of_no_valid_line {w : Word} {c : Channel} (h : validField w c = 0) (inp : BitVec 4) :
    orCombiner w c inp = false := by
  simp [orCombiner, h]

/-- Code 0 names the event that never occurs (45_tick_events.md R264). -/
theorem selectedEvent_of_code_zero {b : Block} {a : Action} {c : Channel} (h : eventCode b a c = 0) (x : Sample)
    (andOut orOut : Bool) : selectedEvent b x a c andOut orOut = false := by
  have hcode : eventField (b.evtSel.get a) c = 0 :=
    BitVec.eq_of_toNat_eq ((field_eq_toNat_eventField _ c).symm.trans h)
  have hnever : Event.ofCode 0 = some .never := by decide
  rw [selectedEvent, hcode, hnever]
  rfl

/-- An action with no event bound does not fire (45_tick_events.md R268). -/
theorem fires_of_unbound {b : Block} {a : Action} {c : Channel} (h : Unbound b a c) (x : Sample) :
    fires b x a c = false := by
  obtain ⟨hcode, hand, hor⟩ := h
  rw [field_eq_toNat_validField] at hand hor
  have hvalidAnd : validField (b.evtAnd.get a) c = 0 := BitVec.eq_of_toNat_eq hand
  have hvalidOr : validField (b.evtOr.get a) c = 0 := BitVec.eq_of_toNat_eq hor
  simp only [fires, selectedEvent_of_code_zero hcode, andCombiner_of_no_valid_line hvalidAnd,
    orCombiner_of_no_valid_line hvalidOr, Bool.or_self]

/-! ### A tick that does not count -/

theorem counting_of_stopped {b : Block} {c : Channel} (h : (b.chan c).run = false) (x : Sample) :
    b.counting x c = false := by
  simp [Block.counting, h]

/-- A tick that does not count keeps the count and the phase and ends no period (46_tick_counting.md R290). -/
theorem countStep_of_not_counting {b : Block} {x : Sample} {c : Channel} (h : b.counting x c = false) :
    b.countStep x c = ⟨b.count c, (b.chan c).phase, false⟩ := by
  simp [Block.countStep, h]

/-! ### The idle tick -/

/-- What a tick computes for a channel it does not disturb. -/
def Block.idleTick (b : Block) (c : Channel) : ChannelTick where
  count := b.count c
  chan := b.chan c
  captured := none
  peak := false
  zero := false
  event := false
  commit := false

/-- A stopped channel is not disturbed by a tick on which no action fires, those of the other channel included: its
start action starts this one through `SYNC_TRIG_c` (46_tick_counting.md R307). -/
theorem channelTick_of_stopped {b : Block} {x : Sample} {c : Channel} (hrun : (b.chan c).run = false)
    (hhalt : (b.chan c).halt = false) (hfires : ∀ a c, fires b x a c = false) :
    b.channelTick x c = b.idleTick c := by
  have hcounting : b.counting x c = false := counting_of_stopped hrun x
  have hstep := countStep_of_not_counting hcounting
  have hcommits : b.commits x c = false := by simp [Block.commits, hstep]
  have hnextRun : b.nextRun x c = (b.chan c).run := by
    simp [Block.nextRun, Block.stops, Block.starts, Block.endsOneShot, hfires, hstep]
  have hnextHalt : b.nextHalt x c = (b.chan c).halt := by
    simp [Block.nextHalt, hnextRun, hrun, hhalt]
  have hnextPhase : b.nextPhase x c = (b.chan c).phase := by
    simp [Block.nextPhase, Block.starts, Block.stops, hfires, hstep]
  have hnextOut : b.nextOut x c = (b.chan c).out := by
    simp [Block.nextOut, Block.compareMatch, hcounting, hstep, hfires]
  simp [Block.channelTick, Block.idleTick, Block.peakSeen, Block.zeroSeen, hcounting, hstep, hcommits, hnextRun,
    hnextHalt, hnextPhase, hnextOut, hfires]

/-- A channel's own slice written back changes nothing (00_scope.md R8). -/
@[simp] theorem putSlice_slice (m : Bool) (w : Word) (c : Channel) : putSlice m w c (slice m w c) = w := by
  cases m with
  | true => rfl
  | false =>
    cases c <;>
    · simp only [putSlice, slice, Bool.false_eq_true, if_false]
      ext i hi
      simp only [BitVec.getElem_append, BitVec.getElem_extractLsb', BitVec.getLsbD_setWidth,
        BitVec.getLsbD_extractLsb']
      grind

@[simp] theorem setChan_chan (b : Block) (c : Channel) : b.setChan c (b.chan c) = b := by
  cases c <;> rfl

@[simp] theorem writeChannel_idleTick (b : Block) (c : Channel) : b.writeChannel c (b.idleTick c) = b := by
  simp [Block.writeChannel, Block.idleTick, Block.count, raiseCause]

/-- A tick that disturbs no channel leaves the input history and nothing else (45_tick_events.md R260, R263). -/
theorem tick_of_idle {b : Block} {inp : BitVec 4}
    (h : ∀ c, b.channelTick (b.sample inp) c = b.idleTick c) :
    b.tick inp = { b with prevIn := inp, riseReg := inp &&& ~~~b.prevIn } := by
  cases hm : b.mode32 with
  | true => rw [tick_mode32 b inp hm, h, writeChannel_idleTick]
  | false => rw [tick_mode16 b inp hm, h, h, writeChannel_idleTick, writeChannel_idleTick]

/-! ### The frame of a tick -/

/-- `RISE_REG` after a tick, line by line (45_tick_events.md R262, R263). -/
theorem getLsbD_tick_riseReg (b : Block) (inp : BitVec 4) (i : Nat) :
    (b.tick inp).riseReg.getLsbD i = rise b inp i := by
  rw [tick_riseReg, rise, BitVec.getLsbD_and, BitVec.getLsbD_not]
  by_cases hi : i < 4
  · rw [decide_eq_true hi, Bool.true_and]
  · rw [BitVec.getLsbD_of_ge inp i (by omega), Bool.false_and, Bool.false_and]

/-- Settles O21: the registers are those no channel writes; with nothing bound and both counters stopped, no channel is
disturbed. -/
theorem tickFrame : Obligations.TickFrame := by
  intro inp s
  refine ⟨make_eq_cmd 2 0 _, fun hallowed => ⟨_, exec_tick_of_allowed hallowed inp, rfl, ?_⟩⟩
  simp only [answer_toBlock, withBlock_toBlock]
  refine ⟨tick_level _ _, tick_mask _ _, tick_matchReg _ _, tick_ocuCtrl _ _, tick_ocuCompareNxt _ _,
    tick_wfgCtrl _ _, tick_adcSel _ _, tick_evtSel _ _, tick_evtAnd _ _, tick_evtOr _ _, tick_prevIn _ _,
    getLsbD_tick_riseReg _ _, fun hunbound hstopped => tick_of_idle fun c => ?_⟩
  obtain ⟨hrun, hhalt⟩ := hstopped c
  exact channelTick_of_stopped hrun hhalt fun a c => fires_of_unbound (hunbound c a) _

end Sys2Proof.Machine
end

section
/-! SUPPORT. A performed tick in the words of the statements: the run state of a channel, the bits of `STS` and the
capture slice after it, and the freezing of channel 1 in 32-bit mode (46_tick_counting.md R300 to R312). -/

namespace Sys2Proof.Machine

open Sys2Proof.Claims

/-! ### The state after a performed tick -/

/-- The state a performed tick leaves (45_tick_events.md R260). -/
def State.afterTick (s : State) (inp : BitVec 4) : State := (s.withBlock (s.tick inp)).answer .ok

@[simp] theorem afterTick_toBlock (s : State) (inp : BitVec 4) : (s.afterTick inp).toBlock = s.tick inp := rfl

theorem exec_tick_eq_afterTick {s : State} (h : Allowed s.toBlock) (inp : BitVec 4) :
    exec (.tick inp) s = .next (s.afterTick inp) :=
  exec_tick_of_allowed h inp

/-- What holds of the state a tick leaves, where the tick is allowed, is what the tick establishes. -/
theorem ticked_of_afterTick {inp : BitVec 4} {s : State} {P : State → Prop}
    (h : Allowed s.toBlock → P (s.afterTick inp)) : Ticked inp s P :=
  fun hallowed => ⟨_, exec_tick_eq_afterTick hallowed inp, h hallowed⟩

/-! ### What a tick keeps of the quantities of the statements -/

@[simp] theorem mode_tick (b : Block) (inp : BitVec 4) : mode (b.tick inp) = mode b := by
  rw [mode, tick_level, mode]

@[simp] theorem isActive_tick (b : Block) (inp : BitVec 4) (c : Channel) :
    isActive (b.tick inp) c = isActive b c := by
  rw [isActive, mode_tick, isActive]

@[simp] theorem mat_tick (b : Block) (inp : BitVec 4) (c : Channel) : mat (b.tick inp) c = mat b c := by
  rw [mat, mode_tick, tick_matchReg, mat]

@[simp] theorem dir_tick (b : Block) (inp : BitVec 4) (c : Channel) : dir (b.tick inp) c = dir b c := by
  rw [dir, tick_level, dir]

/-- The count of an active channel after a tick, as a number (46_tick_counting.md R290). -/
theorem cnt_tick {b : Block} {c : Channel} (hactive : isActive b c = true) (inp : BitVec 4) :
    cnt (b.tick inp) c = (b.countStep (b.sample inp) c).count.toNat := by
  rw [cnt_eq_toNat_count, tick_count b inp c ((isActive_iff b c).mp hactive)]

/-! ### Start, stop, period boundary and phase -/

theorem per_eq (b : Block) (c : Channel) : per b c = b.periodic c :=
  bit_eq_chanBit b.level periodicBit c

/-- What starts a channel, in the statements and in the model (46_tick_counting.md R306, R307). -/
theorem start_eq (b : Block) (inp : BitVec 4) (c : Channel) : start b inp c = b.starts (b.sample inp) c := by
  rw [start, fire_eq, fire_eq, bit_eq_chanBit]
  rfl

theorem stop_eq (b : Block) (inp : BitVec 4) (c : Channel) : stop b inp c = b.stops (b.sample inp) c :=
  fire_eq b inp .stop c

/-- The one-shot end of the statements is the model's (46_tick_counting.md R301). -/
theorem endsOneShot_eq (b : Block) (inp : BitVec 4) (c : Channel) :
    b.endsOneShot (b.sample inp) c = (boundary b inp c && !per b c) := by
  rw [Block.endsOneShot, boundary_eq, per_eq]

/-- The step of a counting tick is that of the channel's direction (46_tick_counting.md R294 to R298). -/
theorem countStep_of_counting {b : Block} {x : Sample} {c : Channel} (h : b.counting x c = true) :
    b.countStep x c =
      stepCount (b.direction c) (b.periodic c) (b.chan c).phase (maxCount b.mode32) (b.matchValue c) (b.count c) := by
  rw [Block.countStep, if_pos h]

theorem stepUp_phase (top mat cnt : Word) : (stepUp top mat cnt).phase = false := by
  unfold stepUp
  split_ifs <;> rfl

theorem stepDown_phase (mat cnt : Word) : (stepDown mat cnt).phase = false := by
  unfold stepDown
  split_ifs <;> rfl

/-- An ascending counter turns at its match value (46_tick_counting.md R297). -/
theorem stepAscending_phase (top mat cnt : Word) : (stepAscending top mat cnt).phase = (cnt == mat) := by
  unfold stepAscending
  split
  next hmat => exact (beq_iff_eq.mpr hmat).symm
  next hmat =>
    rw [beq_eq_false_iff_ne.mpr hmat]
    split <;> rfl

/-- A descending counter turns at 0 (46_tick_counting.md R298). -/
theorem stepDescending_phase (periodic : Bool) (mat cnt : Word) :
    (stepDescending periodic mat cnt).phase = (cnt != 0) := by
  unfold stepDescending
  split
  next hzero => simp [hzero]
  next hzero => exact (bne_iff_ne.mpr hzero).symm

/-- The phase after a counting tick, by direction (46_tick_counting.md R294 to R298). -/
theorem stepCount_phase (dir : Direction) (periodic phase : Bool) (top mat cnt : Word) :
    (stepCount dir periodic phase top mat cnt).phase =
      (decide (dir = .upDown) && if phase then cnt != 0 else cnt == mat) := by
  cases dir with
  | up => exact stepUp_phase top mat cnt
  | down => exact stepDown_phase mat cnt
  | upDown =>
    cases phase with
    | false => exact stepAscending_phase top mat cnt
    | true => exact stepDescending_phase periodic mat cnt

theorem direction_eq_upDown_iff (b : Block) (c : Channel) : b.direction c = .upDown ↔ dir b c = 3 := by
  rw [direction_eq]
  split_ifs with hdown hupDown <;> simp_all

/-- The stepped phase of the statements is the model's (46_tick_counting.md R294 to R298). -/
theorem nphase_eq (b : Block) (inp : BitVec 4) (c : Channel) :
    nphase b inp c = (b.countStep (b.sample inp) c).phase := by
  rw [nphase, counting_eq]
  cases h : b.counting (b.sample inp) c with
  | false => rw [countStep_of_not_counting h]; rfl
  | true =>
    rw [countStep_of_counting h, stepCount_phase, cnt_eq_toNat_count, mat_eq_toNat_matchValue, toNat_beq_toNat,
      toNat_bne_zero, if_pos rfl]
    by_cases hdir : dir b c = 3
    · rw [if_pos hdir, decide_eq_true ((direction_eq_upDown_iff b c).mpr hdir), Bool.true_and]
    · rw [if_neg hdir, decide_eq_false (mt (direction_eq_upDown_iff b c).mp hdir), Bool.false_and]

/-! ### The run state after a tick -/

section
variable {b : Block} {c : Channel} (hactive : isActive b c = true) (inp : BitVec 4)
include hactive

/-- `RUN_c` after a tick: stop over start over one-shot end (46_tick_counting.md R306). -/
theorem tick_run :
    ((b.tick inp).chan c).run =
      if stop b inp c then false else if start b inp c then true
        else if boundary b inp c && !per b c then false else (b.chan c).run := by
  rw [tick_chan b inp c ((isActive_iff b c).mp hactive), stop_eq, start_eq, ← endsOneShot_eq]
  rfl

/-- `HALT_c` after a tick: start over halt, halt over continue (46_tick_counting.md R306). -/
theorem tick_halt :
    ((b.tick inp).chan c).halt =
      if !((b.tick inp).chan c).run || start b inp c then false else if fire b inp .halt c then true
        else if fire b inp .cont c then false else (b.chan c).halt := by
  rw [tick_chan b inp c ((isActive_iff b c).mp hactive), start_eq, fire_eq, fire_eq]
  rfl

/-- `PHASE_c` after a tick (46_tick_counting.md R306). -/
theorem tick_phase :
    ((b.tick inp).chan c).phase = if start b inp c || stop b inp c then false else nphase b inp c := by
  rw [tick_chan b inp c ((isActive_iff b c).mp hactive), start_eq, stop_eq, nphase_eq]
  rfl

/-- A tick that ends no period commits no compare value (47_tick_output.md R328). -/
theorem tick_nxtValid_of_no_boundary (h : boundary b inp c = false) :
    ((b.tick inp).chan c).nxtValid = (b.chan c).nxtValid := by
  have hcommits : b.commits (b.sample inp) c = false := by rw [Block.commits, ← boundary_eq, h]; rfl
  rw [tick_chan b inp c ((isActive_iff b c).mp hactive), Block.channelTick, hcommits]
  exact Bool.and_true _

end

/-- Settles O28: the boundary of the statement is the model's, in every state. -/
theorem boundaryExactly : Obligations.BoundaryExactly :=
  fun b inp c _ _ => (boundary_eq b inp c).symm

/-- Settles O29: the three bits of an active channel after a tick. -/
theorem runStateAfterTick : Obligations.RunStateAfterTick :=
  fun inp _ _ hactive => ticked_of_afterTick fun _ =>
    ⟨tick_run hactive inp, tick_halt hactive inp, tick_phase hactive inp⟩

end Sys2Proof.Machine
end

section
/-! SUPPORT. The bits of `STS` and the slices of CAPTURE after a tick, and the freezing of channel 1 in 32-bit mode
(46_tick_counting.md R308 to R312). -/

namespace Sys2Proof.Machine

open Sys2Proof.Claims

/-! ### The status bits after a tick -/

/-- The observed zero of the statements is the model's (46_tick_counting.md R293). -/
theorem zero_eq (b : Block) (inp : BitVec 4) (c : Channel) : zero b inp c = b.zeroSeen (b.sample inp) c := by
  have hcnt : (cnt b c == 0) = (b.count c == 0) := by
    rw [cnt_eq_toNat_count]
    exact toNat_beq_toNat _ 0#32
  rw [zero, counting_eq, hcnt, Block.zeroSeen]

/-- The observed peak of the statements is the model's (46_tick_counting.md R293). -/
theorem peak_eq (b : Block) (inp : BitVec 4) (c : Channel) : peak b inp c = b.peakSeen (b.sample inp) c := by
  rw [peak, counting_eq, cnt_eq_toNat_count, mat_eq_toNat_matchValue, toNat_beq_toNat, Block.peakSeen]

/-- Whether a tick raises bit `n` of `STS` on behalf of channel `c`: PEAK, ZERO or EVENT (46_tick_counting.md R309 to
R311). -/
def raises (b : Block) (inp : BitVec 4) (c : Channel) (n : Nat) : Bool :=
  (n == 3 + 16 * idx c && peak b inp c) || (n == 2 + 16 * idx c && zero b inp c) ||
    (n == 16 * idx c && fire b inp .interrupt c)

/-- One channel's writes raise its own three causes and touch no other status bit (46_tick_counting.md R309 to R311). -/
theorem getLsbD_sts_writeChannel (b b' : Block) (inp : BitVec 4) (c : Channel) (n : Nat) :
    (b'.writeChannel c (b.channelTick (b.sample inp) c)).sts.getLsbD n = (b'.sts.getLsbD n || raises b inp c n) := by
  have hpeak : causeIndex .peak c = 3 + 16 * idx c := by cases c <;> rfl
  have hzero : causeIndex .zero c = 2 + 16 * idx c := by cases c <;> rfl
  have hevent : causeIndex .event c = 16 * idx c := by cases c <;> rfl
  have hbeq (k : Nat) : (n == k) = decide (n = k) := rfl
  simp only [writeChannel_sts, raiseCause_getLsbD, hpeak, hzero, hevent, Block.channelTick, raises, peak_eq, zero_eq,
    fire_eq, hbeq, Bool.or_assoc, Bool.and_comm]

/-- Every bit of `STS` after a tick (46_tick_counting.md R309 to R311). -/
theorem getLsbD_sts_tick (b : Block) (inp : BitVec 4) (n : Nat) :
    (b.tick inp).sts.getLsbD n =
      (b.sts.getLsbD n || [Channel.c0, Channel.c1].any fun c => isActive b c && raises b inp c n) := by
  have hmode : mode b = b.mode32 := rfl
  cases hm : b.mode32 with
  | true =>
    rw [tick_mode32 b inp hm]
    simp [getLsbD_sts_writeChannel, isActive, idx, hmode, hm, -writeChannel_sts]
  | false =>
    rw [tick_mode16 b inp hm]
    simp [getLsbD_sts_writeChannel, isActive, idx, hmode, hm, Bool.or_assoc, -writeChannel_sts]

/-- `PEAK_c` of an active channel after a tick (46_tick_counting.md R309). -/
theorem bit_peak_tick {b : Block} {c : Channel} (hactive : isActive b c = true) (inp : BitVec 4) :
    bit (b.tick inp).sts 3 c = (bit b.sts 3 c || peak b inp c) := by
  rw [bit, getLsbD_sts_tick]
  cases c <;> simp [raises, idx, bit, hactive]

/-- `ZERO_c` of an active channel after a tick (46_tick_counting.md R310). -/
theorem bit_zero_tick {b : Block} {c : Channel} (hactive : isActive b c = true) (inp : BitVec 4) :
    bit (b.tick inp).sts 2 c = (bit b.sts 2 c || zero b inp c) := by
  rw [bit, getLsbD_sts_tick]
  cases c <;> simp [raises, idx, bit, hactive]

/-- Settles O31: bit by bit, what the active channels raise. -/
theorem statusAfterTick : Obligations.StatusAfterTick :=
  fun inp s => ticked_of_afterTick fun _ n => getLsbD_sts_tick s.toBlock inp n

/-! ### The capture slices after a tick -/

/-- A channel's writes store its captured count in its own slice (46_tick_counting.md R308). -/
theorem slice_captureReg_writeChannel_same {b : Block} {m : Bool} (hm : b.mode32 = m) (c : Channel) {r : ChannelTick}
    (hfits : ∀ v ∈ r.captured, Fits m v) :
    slice m (b.writeChannel c r).captureReg c = r.captured.getD (slice m b.captureReg c) := by
  rw [writeChannel_captureReg, hm]
  cases h : r.captured with
  | none => rfl
  | some v => exact slice_putSlice_fits (hfits v h) _ _

/-- In 16-bit mode a channel's writes leave the other's capture slice (00_scope.md R8). -/
theorem slice_captureReg_writeChannel_other {b : Block} (hm : b.mode32 = false) (c : Channel) (r : ChannelTick) :
    slice false (b.writeChannel c r).captureReg c.other = slice false b.captureReg c.other := by
  rw [writeChannel_captureReg, hm]
  cases r.captured with
  | none => rfl
  | some v => exact slice_putSlice_other _ _ _

theorem fits_captured {b : Block} {m : Bool} (hm : b.mode32 = m) (x : Sample) (c : Channel) :
    ∀ v ∈ (b.channelTick x c).captured, Fits m v := by
  intro v hv
  obtain ⟨-, rfl⟩ : fires b x .capture c = true ∧ b.count c = v := by simpa [Block.channelTick] using hv
  exact hm ▸ fits_slice _ _ _

/-- The capture slice of an active channel after a tick (46_tick_counting.md R308). -/
theorem slice_captureReg_tick {b : Block} {c : Channel} (hactive : c ∈ activeChannels b.mode32) (inp : BitVec 4) :
    slice b.mode32 (b.tick inp).captureReg c =
      (b.channelTick (b.sample inp) c).captured.getD (slice b.mode32 b.captureReg c) := by
  cases hm : b.mode32 with
  | true =>
    obtain rfl : c = .c0 := by simpa [mem_activeChannels, hm] using hactive
    rw [tick_mode32 b inp hm]
    exact slice_captureReg_writeChannel_same hm .c0 (fits_captured hm _ _)
  | false =>
    have hm₀ := (writeChannel_mode32 b .c0 (b.channelTick (b.sample inp) .c0)).trans hm
    rw [tick_mode16 b inp hm]
    cases c with
    | c0 =>
      exact (slice_captureReg_writeChannel_other hm₀ .c1 _).trans
        (slice_captureReg_writeChannel_same hm .c0 (fits_captured hm _ _))
    | c1 =>
      exact (slice_captureReg_writeChannel_same hm₀ .c1 (fits_captured hm _ _)).trans
        (congrArg (Option.getD _) (slice_captureReg_writeChannel_other hm .c0 _))

/-- The capture slice of an active channel after a tick, as a number: the count before the step, counting or not
(46_tick_counting.md R308). -/
theorem part_captureReg_tick {b : Block} {c : Channel} (hactive : isActive b c = true) (inp : BitVec 4) :
    part (mode b) (b.tick inp).captureReg c =
      if fire b inp .capture c then cnt b c else part (mode b) b.captureReg c := by
  have hslice := slice_captureReg_tick ((isActive_iff b c).mp hactive) inp
  rw [part_eq_toNat_slice, part_eq_toNat_slice, cnt_eq_toNat_count, fire_eq, ← apply_ite BitVec.toNat]
  refine congrArg BitVec.toNat (hslice.trans ?_)
  rw [Block.channelTick]
  split_ifs <;> rfl

/-- Settles O30: the slice of an active channel, with no condition on its run state. -/
theorem captureStores : Obligations.CaptureStores :=
  fun inp _ _ hactive => ticked_of_afterTick fun _ => part_captureReg_tick hactive inp

/-! ### 32-bit mode -/

/-- In 32-bit mode a tick touches no status bit of channel 1 (46_tick_counting.md R312). -/
theorem getLsbD_sts_tick_mode32 {b : Block} (hm : mode b = true) (inp : BitVec 4) {n : Nat} (hn : 16 ≤ n) :
    (b.tick inp).sts.getLsbD n = b.sts.getLsbD n := by
  have hraises : raises b inp .c0 n = false := by
    simp [raises, idx, show n ≠ 3 by omega, show n ≠ 2 by omega, show n ≠ 0 by omega]
  simp [getLsbD_sts_tick, hraises, isActive, idx, hm]

/-- A write without a trigger bit starts no channel (40_control_regs.md R154). -/
theorem triggers_of_no_trigBit {d : Word} (h : ∀ c, chanBit d trigBit c = false) (b : Block) : b.triggers d = b := by
  simp [triggers_eq, Block.triggered, h]

/-- Setting `MODE32` alone pulses no channel: the write changes the control word and nothing else
(40_control_regs.md R151). -/
theorem exec_wrGenCtrlSet_mode32 (s : State) : exec (.wrGenCtrlSet 1) s = leavesBlock (s.setLevel 1) s := by
  have hreset (c : Channel) : chanBit 1 softResetBit c = false := by cases c <;> decide
  have htrig (c : Channel) : chanBit 1 trigBit c = false := by cases c <;> decide
  rw [exec_wrGenCtrlSet, Block.controlSet, softResets_of_no_softResetBit hreset, triggers_of_no_trigBit htrig]

/-- Clearing `MODE32` changes the control word and nothing else (40_control_regs.md R156). -/
theorem exec_wrGenCtrlReset_mode32 (s : State) :
    exec (.wrGenCtrlReset 1) s = leavesBlock { s.toBlock with level := s.level &&& ~~~1#32 } s := rfl

/-- Settles O34: the quantities of 32-bit mode, the tick, and the two mode switches. -/
theorem mergedModeFreezesChannel1 : Obligations.MergedModeFreezesChannel1 := by
  intro s
  refine ⟨fun hm => ?_, fun hm => ?_, fun hm inp => ticked_of_afterTick fun _ => ?_,
    ⟨_, exec_wrGenCtrlSet_mode32 s, ?_, rfl, rfl⟩, ⟨_, exec_wrGenCtrlReset_mode32 s, ?_, rfl, rfl⟩⟩
  · have hmode : s.mode32 = true := hm
    simp [Block.count, Block.matchValue, hmode, activeChannels, maxCount]
  · simp [cnt, mat, part, isActive, idx, maxOf, hm]
  · exact ⟨tick_ch1_mode32 _ _ hm, fun _ hn => getLsbD_sts_tick_mode32 hm inp hn⟩
  · simp [mode, levelMask]
  · simp [mode]

end Sys2Proof.Machine
end

section
/-! SUPPORT. The count after a tick as a number, direction by direction (46_tick_counting.md R291 to R298). -/

namespace Sys2Proof.Machine

open Sys2Proof.Claims

/-! ### Counts as numbers -/

theorem toNat_maxCount (m : Bool) : (maxCount m).toNat = maxOf m := by cases m <;> rfl

theorem toNat_le_maxOf_of_fits {m : Bool} {v : Word} (h : Fits m v) : v.toNat ≤ maxOf m := by
  rw [← toNat_maxCount]
  exact BitVec.le_def.mp ((fits_iff m v).mp h)

theorem maxOf_lt (m : Bool) : maxOf m < 2 ^ 32 := by cases m <;> decide

/-- The count of a channel is at most `MAX` (46_tick_counting.md R290). -/
theorem cnt_le_maxOf (b : Block) (c : Channel) : cnt b c ≤ maxOf (mode b) := by
  rw [cnt_eq_toNat_count]
  exact toNat_le_maxOf_of_fits (fits_slice _ _ _)

theorem eq_zero_iff_toNat (v : Word) : v = 0 ↔ v.toNat = 0 := BitVec.toNat_inj.symm

/-- Below `MAX` the increment does not wrap (41_counter_data_regs.md R177). -/
theorem toNat_add_one_of_fits {m : Bool} {v : Word} (h : Fits m v) (hne : v.toNat ≠ maxOf m) :
    (v + 1).toNat = v.toNat + 1 := by
  have hle := toNat_le_maxOf_of_fits h
  have hmax := maxOf_lt m
  exact BitVec.toNat_add_of_lt (show v.toNat + 1 < 2 ^ 32 by omega)

/-- Above 0 the decrement does not wrap (41_counter_data_regs.md R177). -/
theorem toNat_sub_one_of_ne_zero {v : Word} (hne : v.toNat ≠ 0) : (v - 1).toNat = v.toNat - 1 :=
  BitVec.toNat_sub_of_le (BitVec.le_def.mpr (show 1 ≤ v.toNat by omega))

/-! ### The step of each direction -/

/-- UP: reload at the match value, hold at `MAX`, else increment (46_tick_counting.md R294). -/
theorem toNat_stepUp_count {m : Bool} {cnt : Word} (h : Fits m cnt) (mat : Word) :
    (stepUp (maxCount m) mat cnt).count.toNat =
      if cnt.toNat = mat.toNat then 0 else if cnt.toNat = maxOf m then cnt.toNat else cnt.toNat + 1 := by
  simp only [stepUp, ← BitVec.toNat_inj, toNat_maxCount]
  split_ifs with hmat htop
  · rfl
  · rfl
  · exact toNat_add_one_of_fits h htop

/-- DOWN: reload the match value at 0, else decrement (46_tick_counting.md R296). -/
theorem toNat_stepDown_count (mat cnt : Word) :
    (stepDown mat cnt).count.toNat = if cnt.toNat = 0 then mat.toNat else cnt.toNat - 1 := by
  simp only [stepDown, eq_zero_iff_toNat]
  split_ifs with hzero
  · rfl
  · exact toNat_sub_one_of_ne_zero hzero

/-- UP_DOWN ascending: turn at the match value, hold at `MAX`, else increment (46_tick_counting.md R297). -/
theorem toNat_stepAscending_count {m : Bool} {cnt : Word} (h : Fits m cnt) (mat : Word) :
    (stepAscending (maxCount m) mat cnt).count.toNat =
      if cnt.toNat = mat.toNat then (if cnt.toNat = 0 then 0 else cnt.toNat - 1)
      else if cnt.toNat = maxOf m then cnt.toNat else cnt.toNat + 1 := by
  simp only [stepAscending, eq_zero_iff_toNat, ← BitVec.toNat_inj (y := mat),
    ← BitVec.toNat_inj (y := maxCount m), toNat_maxCount]
  split_ifs with hmat hzero htop
  · rfl
  · exact toNat_sub_one_of_ne_zero hzero
  · rfl
  · exact toNat_add_one_of_fits h htop

/-- UP_DOWN descending: at 0 a periodic counter goes straight on to 1, else decrement (46_tick_counting.md R298). -/
theorem toNat_stepDescending_count (periodic : Bool) (mat cnt : Word) :
    (stepDescending periodic mat cnt).count.toNat =
      if cnt.toNat = 0 then (if periodic = true ∧ mat.toNat ≠ 0 then 1 else 0) else cnt.toNat - 1 := by
  simp only [stepDescending, eq_zero_iff_toNat, Bool.and_eq_true, bne_iff_ne, ne_eq]
  split_ifs with hzero hon
  · rfl
  · rfl
  · exact toNat_sub_one_of_ne_zero hzero

/-! ### The count after a tick -/

section
variable {b : Block} {inp : BitVec 4} {c : Channel} (hactive : isActive b c = true)
include hactive

/-- A tick that does not count keeps the count (46_tick_counting.md R291). -/
theorem cnt_tick_of_not_counting (h : counting b inp c = false) : cnt (b.tick inp) c = cnt b c := by
  rw [counting_eq] at h
  rw [cnt_tick hactive, countStep_of_not_counting h, cnt_eq_toNat_count]

variable (hcounting : counting b inp c = true)
include hcounting

/-- The count after a counting tick is the step of the channel's direction (46_tick_counting.md R294 to R298). -/
theorem cnt_tick_of_counting :
    cnt (b.tick inp) c =
      (stepCount (b.direction c) (b.periodic c) (b.chan c).phase (maxCount b.mode32) (b.matchValue c)
        (b.count c)).count.toNat := by
  rw [counting_eq] at hcounting
  rw [cnt_tick hactive, countStep_of_counting hcounting]

theorem cnt_tick_up (hdown : dir b c ≠ 2) (hupDown : dir b c ≠ 3) :
    cnt (b.tick inp) c =
      if cnt b c = mat b c then 0 else if cnt b c = maxOf (mode b) then cnt b c else cnt b c + 1 := by
  rw [cnt_tick_of_counting hactive hcounting, direction_eq, if_neg hdown, if_neg hupDown, cnt_eq_toNat_count,
    mat_eq_toNat_matchValue]
  exact toNat_stepUp_count (fits_slice _ _ _) _

theorem cnt_tick_down (hdir : dir b c = 2) :
    cnt (b.tick inp) c = if cnt b c = 0 then mat b c else cnt b c - 1 := by
  rw [cnt_tick_of_counting hactive hcounting, direction_eq, if_pos hdir, cnt_eq_toNat_count,
    mat_eq_toNat_matchValue]
  exact toNat_stepDown_count _ _

theorem cnt_tick_ascending (hdir : dir b c = 3) (hphase : (b.chan c).phase = false) :
    cnt (b.tick inp) c =
      if cnt b c = mat b c then (if cnt b c = 0 then 0 else cnt b c - 1)
      else if cnt b c = maxOf (mode b) then cnt b c else cnt b c + 1 := by
  rw [cnt_tick_of_counting hactive hcounting, direction_eq, if_neg (by omega), if_pos hdir, hphase,
    cnt_eq_toNat_count, mat_eq_toNat_matchValue]
  exact toNat_stepAscending_count (fits_slice _ _ _) _

theorem cnt_tick_descending (hdir : dir b c = 3) (hphase : (b.chan c).phase = true) :
    cnt (b.tick inp) c =
      if cnt b c = 0 then (if per b c = true ∧ mat b c ≠ 0 then 1 else 0) else cnt b c - 1 := by
  rw [cnt_tick_of_counting hactive hcounting, direction_eq, if_neg (by omega), if_pos hdir, hphase,
    cnt_eq_toNat_count, mat_eq_toNat_matchValue, per_eq]
  exact toNat_stepDescending_count _ _ _

end

/-! ### The five statements -/

/-- The phase after a tick in the form the statements of one direction use (46_tick_counting.md R306). -/
theorem tick_phase_eq_and {b : Block} {c : Channel} (hactive : isActive b c = true) (inp : BitVec 4) :
    ((b.tick inp).chan c).phase = (nphase b inp c && !start b inp c && !stop b inp c) := by
  rw [tick_phase hactive]
  cases start b inp c <;> cases stop b inp c <;> simp

/-- Settles O23: the enable of the statement is the model's, and a tick that does not count steps nothing. -/
theorem countingTicks : Obligations.CountingTicks := by
  intro inp s c hactive
  refine ⟨fun _ => (counting_eq s.toBlock inp c).symm, ticked_of_afterTick fun _ hidle => ?_⟩
  have hpeak : peak s.toBlock inp c = false := by rw [peak, hidle]; rfl
  have hzero : zero s.toBlock inp c = false := by rw [zero, hidle]; rfl
  have hboundary : boundary s.toBlock inp c = false := by rw [boundary, hidle]; rfl
  have hnphase : nphase s.toBlock inp c = (s.chan c).phase := by rw [nphase, hidle]; rfl
  refine ⟨cnt_tick_of_not_counting hactive hidle, ?_, ?_, ?_, boundary_eq s.toBlock inp c ▸ hboundary⟩
  · rw [afterTick_toBlock, bit_peak_tick hactive, hpeak, Bool.or_false]
  · rw [afterTick_toBlock, bit_zero_tick hactive, hzero, Bool.or_false]
  · rw [afterTick_toBlock, tick_phase_eq_and hactive, hnphase]
    rw [Bool.and_assoc, Bool.and_comm]

/-- Settles O24: the match value is the only boundary of an up-counter, and its phase is never stepped to 1. -/
theorem upStep : Obligations.UpStep := by
  intro inp s c hactive hcounting hdir
  have hdown : dir s.toBlock c ≠ 2 := by omega
  have hupDown : dir s.toBlock c ≠ 3 := by omega
  refine ticked_of_afterTick fun _ => ⟨cnt_tick_up hactive hcounting hdown hupDown, ?_, ?_⟩
  · rw [afterTick_toBlock, tick_phase_eq_and hactive, nphase, if_pos hcounting, if_neg hupDown]
    rfl
  · rw [← boundary_eq, boundary, hcounting, if_neg hdown, if_neg hupDown]
    rfl

/-- Settles O25: 0 is the only boundary of a down-counter, and its phase is never stepped to 1. -/
theorem downStep : Obligations.DownStep := by
  intro inp s c hactive hcounting hdir
  have hupDown : dir s.toBlock c ≠ 3 := by omega
  refine ticked_of_afterTick fun _ => ⟨cnt_tick_down hactive hcounting hdir, ?_, ?_⟩
  · rw [afterTick_toBlock, tick_phase_eq_and hactive, nphase, if_pos hcounting, if_neg hupDown]
    rfl
  · rw [← boundary_eq, boundary, hcounting, if_pos hdir]
    rfl

/-- Settles O26: an ascending up-down counter turns at the match value, and that turn is no boundary. -/
theorem upDownAscends : Obligations.UpDownAscends := by
  intro inp s c hactive hcounting hdir hphase
  refine ticked_of_afterTick fun _ => ⟨cnt_tick_ascending hactive hcounting hdir hphase, ?_, ?_⟩
  · rw [afterTick_toBlock, tick_phase_eq_and hactive, nphase, if_pos hcounting, if_pos hdir, hphase]
    rfl
  · rw [← boundary_eq, boundary, hcounting, if_neg (by omega), if_pos hdir, hphase]
    rfl

/-- Settles O27: a descending up-down counter turns at 0, and that turn is its boundary. -/
theorem upDownDescends : Obligations.UpDownDescends := by
  intro inp s c hactive hcounting hdir hphase
  refine ticked_of_afterTick fun _ => ⟨cnt_tick_descending hactive hcounting hdir hphase, ?_, ?_⟩
  · rw [afterTick_toBlock, tick_phase_eq_and hactive, nphase, if_pos hcounting, if_pos hdir, hphase]
    rw [decide_not]
    rfl
  · rw [← boundary_eq, boundary, hcounting, if_neg (by omega), if_pos hdir, hphase]
    rfl

end Sys2Proof.Machine
end

section
/-! SUPPORT. A free-running counter over any number of ticks, and the counter above its match value, which climbs to
`MAX` and holds there (46_tick_counting.md R295). -/

namespace Sys2Proof.Machine

open Sys2Proof.Claims

/-! ### Running ticks -/

/-- A run of ticks begins with the state of its first tick, where that tick is allowed (45_tick_events.md R260). -/
theorem runTicks_cons_of_allowed {s : State} (h : Allowed s.toBlock) (inp : BitVec 4) (ins : List (BitVec 4)) :
    runTicks (inp :: ins) s = runTicks ins (s.afterTick inp) := by
  rw [runTicks, exec_tick_eq_afterTick h]

/-! ### A tick of an undisturbed channel -/

@[simp] theorem eventCode_tick (b : Block) (inp : BitVec 4) (a : Action) (c : Channel) :
    eventCode (b.tick inp) a c = eventCode b a c := by
  rw [eventCode, tick_evtSel, eventCode]

/-- A tick writes no configuration register, so a channel stays undisturbed (45_tick_events.md R260). -/
theorem undisturbed_tick {b : Block} {c : Channel} (h : Undisturbed b c) (inp : BitVec 4) :
    Undisturbed (b.tick inp) c := by
  simpa only [Undisturbed, Allowed, Unbound, eventCode_tick, isActive_tick, mode_tick, tick_ocuCtrl, tick_evtAnd,
    tick_evtOr, tick_level] using h

theorem fire_of_unbound {b : Block} {a : Action} {c : Channel} (h : Unbound b a c) (inp : BitVec 4) :
    fire b inp a c = false := by
  rw [fire_eq, fires_of_unbound h]

section
variable {b : Block} {c : Channel} (h : Undisturbed b c) (inp : BitVec 4)
include h

/-- Nothing starts an undisturbed channel: neither its own start action nor, through `SYNC_TRIG_c`, the other channel's
(46_tick_counting.md R306, R307). -/
theorem start_of_undisturbed : start b inp c = false := by
  obtain ⟨-, -, hstart, -, -, -, hsync⟩ := h
  rw [start, fire_of_unbound hstart]
  obtain hmode | hbit := hsync
  · simp [hmode]
  · simp [hbit]

theorem stop_of_undisturbed : stop b inp c = false := by
  obtain ⟨-, -, -, hstop, -, -, -⟩ := h
  exact fire_of_unbound hstop inp

/-- With no increment event the clock enables every count (46_tick_counting.md R292). -/
theorem enable_of_undisturbed : enable b inp c = true := by
  obtain ⟨-, -, -, -, -, ⟨hcode, hand, hor⟩, -⟩ := h
  have hconfigured : incCfg b c = false := by simp [incCfg, hcode, hand, hor]
  rw [enable, hconfigured]
  rfl

end

/-! ### A tick of a free-running channel -/

section
variable {b : Block} {c : Channel} (h : FreeRunning b c) (inp : BitVec 4)
include h

/-- Every tick of a free-running counter counts (46_tick_counting.md R291). -/
theorem counting_of_freeRunning : counting b inp c = true := by
  obtain ⟨hundisturbed, hrun, hhalt⟩ := h
  rw [counting, hrun, hhalt, enable_of_undisturbed hundisturbed]
  rfl

/-- A free-running counter stops only at a one-shot boundary (46_tick_counting.md R306). -/
theorem freeRunning_tick (hend : (boundary b inp c && !per b c) = false) : FreeRunning (b.tick inp) c := by
  obtain ⟨hundisturbed, hrun, hhalt⟩ := h
  have ⟨_, hactive, _, _, hunboundHalt, _, _⟩ := hundisturbed
  have hstart := start_of_undisturbed hundisturbed inp
  have hstop := stop_of_undisturbed hundisturbed inp
  have hrun' : ((b.tick inp).chan c).run = true := by simp [tick_run hactive, hstart, hstop, hend, hrun]
  have hhalt' : ((b.tick inp).chan c).halt = false := by
    simp [tick_halt hactive, hrun', hstart, fire_of_unbound hunboundHalt, hhalt]
  exact ⟨undisturbed_tick hundisturbed inp, hrun', hhalt'⟩

end

/-! ### A counter above its match value -/

/-- Channel `c` runs freely and ascends, in direction UP or UP_DOWN, above its match value
(46_tick_counting.md R295). -/
structure ClimbsPastMatch (b : Block) (c : Channel) : Prop where
  freeRunning : FreeRunning b c
  notDown : dir b c ≠ 2
  ascending : (b.chan c).phase = false
  aboveMatch : mat b c < cnt b c

namespace ClimbsPastMatch

variable {b : Block} {c : Channel} (h : ClimbsPastMatch b c) (inp : BitVec 4)
include h

theorem active : isActive b c = true := by
  obtain ⟨⟨⟨-, hactive, -⟩, -⟩, -⟩ := h
  exact hactive

theorem counts : counting b inp c = true := counting_of_freeRunning h.freeRunning inp

theorem cnt_ne_mat : cnt b c ≠ mat b c := h.aboveMatch.ne'

/-- The match is never observed (46_tick_counting.md R295). -/
theorem no_peak : peak b inp c = false := by
  rw [peak, beq_eq_false_iff_ne.mpr h.cnt_ne_mat, Bool.and_false]

/-- No period ends: an ascending counter ends one at its match value, an up-down counter none (46_tick_counting.md
R300). -/
theorem no_boundary : boundary b inp c = false := by
  simp [boundary, h.notDown, h.ascending, h.cnt_ne_mat]

theorem no_turn : nphase b inp c = false := by
  simp [nphase, h.counts, h.ascending, h.cnt_ne_mat]

/-- The count climbs by 1 up to `MAX` (46_tick_counting.md R294, R297). -/
theorem cnt_tick : cnt (b.tick inp) c = min (cnt b c + 1) (maxOf (mode b)) := by
  have hle := cnt_le_maxOf b c
  by_cases hupDown : dir b c = 3
  · rw [cnt_tick_ascending h.active (h.counts inp) hupDown h.ascending, if_neg h.cnt_ne_mat]
    split_ifs <;> omega
  · rw [cnt_tick_up h.active (h.counts inp) h.notDown hupDown, if_neg h.cnt_ne_mat]
    split_ifs <;> omega

/-- The counter is still climbing, or holding at `MAX`, after the tick (46_tick_counting.md R295). -/
theorem tick : ClimbsPastMatch (b.tick inp) c where
  freeRunning := freeRunning_tick h.freeRunning inp (by rw [h.no_boundary]; rfl)
  notDown := by rw [dir_tick]; exact h.notDown
  ascending := by rw [tick_phase h.active, h.no_turn]; exact ite_self _
  aboveMatch := by
    have habove := h.aboveMatch
    have hle := cnt_le_maxOf b c
    rw [mat_tick, h.cnt_tick]
    omega

end ClimbsPastMatch

/-- Settles O55, by induction on the ticks: each keeps the counter above its match value, and raises no PEAK and commits
nothing because it ends no period. -/
theorem unreachableMatch : Obligations.UnreachableMatch := by
  intro ins s c hfree hdir hphase hmat
  have h : ClimbsPastMatch s.toBlock c := ⟨hfree, hdir, hphase, hmat⟩
  clear hfree hdir hphase hmat
  induction ins generalizing s with
  | nil =>
    obtain ⟨-, hrun, -⟩ := h.freeRunning
    exact ⟨s, rfl, hrun, rfl, rfl, (min_eq_left (cnt_le_maxOf _ _)).symm⟩
  | cons inp ins ih =>
    obtain ⟨⟨hallowed, -⟩, -⟩ := h.freeRunning
    obtain ⟨t, hticks, hrun, hpeak, hvalid, hcnt⟩ := ih (s.afterTick inp) (h.tick inp)
    refine ⟨t, (runTicks_cons_of_allowed hallowed inp ins).trans hticks, hrun, ?_, ?_, ?_⟩
    · rw [hpeak, afterTick_toBlock, bit_peak_tick h.active, h.no_peak, Bool.or_false]
    · rw [hvalid, afterTick_toBlock, tick_nxtValid_of_no_boundary h.active _ (h.no_boundary inp)]
    · rw [hcnt, afterTick_toBlock, mode_tick, h.cnt_tick, List.length_cons]
      omega

end Sys2Proof.Machine
end

section
/-! SUPPORT. The output and the threshold of an active channel after a tick, in the words of the statements
(47_tick_output.md R321 to R328). -/

namespace Sys2Proof.Machine

open Sys2Proof.Claims

/-! ### The compare match and the two actions on the output -/

theorem toNat_extractLsb'_low8 (w : Word) : (w.extractLsb' 0 8).toNat = w.toNat % 256 := by
  rw [BitVec.extractLsb'_toNat, Nat.shiftRight_zero]

/-- The compare match of the statements is the model's (47_tick_output.md R321, R322). -/
theorem cmpeq_eq (b : Block) (inp : BitVec 4) (c : Channel) :
    cmpeq b inp c = b.compareMatch (b.sample inp) c := by
  rw [cmpeq, counting_eq, bit_eq_chanBit, cnt_eq_toNat_count, part_eq_toNat_slice, ← toNat_extractLsb'_low8,
    ← toNat_extractLsb'_low8, toNat_beq_toNat, toNat_beq_toNat]
  rfl

theorem field_eq_toNat_toggleField (w : Word) (c : Channel) : field w 0 2 c = (w.extractLsb' c.shift 2).toNat := by
  cases c <;> simp [field, idx, Channel.shift, Config.counterOffset, Nat.shiftRight_eq_div_pow]

/-- The toggle selection of a channel, by the number of its field (10_state.md R47). -/
theorem toggleSelect_eq (b : Block) (c : Channel) :
    b.toggleSelect c =
      if field b.wfgCtrl 0 2 c = 0 then .nothing else if field b.wfgCtrl 0 2 c = 1 then .high
      else if field b.wfgCtrl 0 2 c = 2 then .low else .toggle := by
  simp only [field_eq_toNat_toggleField, Block.toggleSelect, ToggleSelect.ofBits, ← BitVec.toNat_inj]
  rfl

/-- The compare action, by the number of the toggle field (47_tick_output.md R323). -/
theorem compareAction_toggleSelect (b : Block) (c : Channel) (o : Bool) :
    compareAction (b.toggleSelect c) o =
      if field b.wfgCtrl 0 2 c = 0 then o else if field b.wfgCtrl 0 2 c = 1 then true
      else if field b.wfgCtrl 0 2 c = 2 then false else !o := by
  rw [toggleSelect_eq]
  split_ifs <;> rfl

/-- The boundary action: both flags toggle, one alone sets its level (47_tick_output.md R324). -/
theorem boundaryAction_eq (high low o : Bool) :
    boundaryAction high low o = if high && low then !o else if high then true else if low then false else o := by
  cases high <;> cases low <;> rfl

/-! ### The output after a tick -/

theorem bit_ocuOutEn (b : Block) (c : Channel) : bit b.ocuCtrl 0 c = b.ocuOutEn c :=
  bit_eq_chanBit b.ocuCtrl ocuOutEnBit c

theorem bit_outHighSel (b : Block) (c : Channel) : bit b.ocuCtrl 6 c = b.outHighSel c :=
  bit_eq_chanBit b.ocuCtrl outHighSelBit c

theorem bit_outLowSel (b : Block) (c : Channel) : bit b.ocuCtrl 9 c = b.outLowSel c :=
  bit_eq_chanBit b.ocuCtrl outLowSelBit c

/-- The port of an active channel after a tick (47_tick_output.md R326). -/
theorem out_tick {b : Block} {c : Channel} (hactive : isActive b c = true) (inp : BitVec 4) :
    out (b.tick inp) c = b.nextOut (b.sample inp) c :=
  congrArg ChanState.out (tick_chan b inp c ((isActive_iff b c).mp hactive))

/-- Settles O32: each condition and each of the two actions of the statement is the model's, and the model applies the
compare action first. -/
theorem outputAfterTick : Obligations.OutputAfterTick := by
  refine fun inp s c hactive => ticked_of_afterTick fun _ => ?_
  rw [afterTick_toBlock, out_tick hactive, Block.nextOut, bit_ocuOutEn, fire_eq, cmpeq_eq, boundary_eq,
    bit_outHighSel, bit_outLowSel]
  cases s.ocuOutEn c with
  | false => rfl
  | true => simp only [compareAction_toggleSelect, boundaryAction_eq]

/-! ### The commit of the pending compare value -/

/-- A channel's writes commit the pending value to its own slice (47_tick_output.md R328). -/
theorem slice_ocuCompare_writeChannel_same {b : Block} {m : Bool} (hm : b.mode32 = m) (c : Channel) (r : ChannelTick) :
    slice m (b.writeChannel c r).ocuCompare c = slice m (if r.commit then b.ocuCompareNxt else b.ocuCompare) c := by
  rw [writeChannel_ocuCompare, hm]
  split_ifs
  · exact slice_putSlice_fits (fits_slice _ _ _) _ _
  · rfl

/-- In 16-bit mode a channel's writes leave the other's threshold (00_scope.md R8). -/
theorem slice_ocuCompare_writeChannel_other {b : Block} (hm : b.mode32 = false) (c : Channel) (r : ChannelTick) :
    slice false (b.writeChannel c r).ocuCompare c.other = slice false b.ocuCompare c.other := by
  rw [writeChannel_ocuCompare, hm]
  split_ifs
  · exact slice_putSlice_other _ _ _
  · rfl

/-- The threshold of an active channel after a tick: the pending value where the tick commits it, else the threshold
before it (47_tick_output.md R328). -/
theorem slice_ocuCompare_tick {b : Block} {c : Channel} (hactive : c ∈ activeChannels b.mode32) (inp : BitVec 4) :
    slice b.mode32 (b.tick inp).ocuCompare c =
      slice b.mode32 (if b.commits (b.sample inp) c then b.ocuCompareNxt else b.ocuCompare) c := by
  cases hm : b.mode32 with
  | true =>
    obtain rfl : c = .c0 := by simpa [mem_activeChannels, hm] using hactive
    rw [tick_mode32 b inp hm]
    exact slice_ocuCompare_writeChannel_same hm .c0 _
  | false =>
    have hm₀ := (writeChannel_mode32 b .c0 (b.channelTick (b.sample inp) .c0)).trans hm
    rw [tick_mode16 b inp hm]
    cases c with
    | c0 =>
      exact (slice_ocuCompare_writeChannel_other hm₀ .c1 _).trans (slice_ocuCompare_writeChannel_same hm .c0 _)
    | c1 =>
      refine (slice_ocuCompare_writeChannel_same hm₀ .c1 _).trans ?_
      rw [writeChannel_ocuCompareNxt, apply_ite (slice false · Channel.c1), apply_ite (slice false · Channel.c1)]
      exact congrArg (ite _ _) (slice_ocuCompare_writeChannel_other hm .c0 _)

/-- The threshold of an active channel after a tick, as a number (47_tick_output.md R328). -/
theorem part_ocuCompare_tick {b : Block} {c : Channel} (hactive : isActive b c = true) (inp : BitVec 4) :
    part (mode b) (b.tick inp).ocuCompare c =
      part (mode b) (if b.commits (b.sample inp) c then b.ocuCompareNxt else b.ocuCompare) c := by
  rw [part_eq_toNat_slice, part_eq_toNat_slice]
  exact congrArg BitVec.toNat (slice_ocuCompare_tick ((isActive_iff b c).mp hactive) inp)

/-- A commit clears `NXT_VALID_c` of an active channel, and nothing else of a tick touches it
(47_tick_output.md R328). -/
theorem tick_nxtValid {b : Block} {c : Channel} (hactive : isActive b c = true) (inp : BitVec 4) :
    ((b.tick inp).chan c).nxtValid = ((b.chan c).nxtValid && !b.commits (b.sample inp) c) :=
  congrArg ChanState.nxtValid (tick_chan b inp c ((isActive_iff b c).mp hactive))

/-- The commit condition of the statements is the model's (47_tick_output.md R328). -/
theorem commits_eq (b : Block) (inp : BitVec 4) (c : Channel) :
    b.commits (b.sample inp) c = (boundary b inp c && bit b.level 7 c && (b.chan c).nxtValid) := by
  rw [Block.commits, boundary_eq, bit_bufEn]

/-- Settles O33, by whether the tick commits. -/
theorem commitAtBoundary : Obligations.CommitAtBoundary := by
  refine fun inp s c hactive => ticked_of_afterTick fun _ => ⟨tick_ocuCompareNxt _ _, ?_⟩
  have hpart := part_ocuCompare_tick hactive inp
  have hvalid := tick_nxtValid hactive inp
  rw [afterTick_toBlock, ← commits_eq]
  cases hcommit : s.commits (s.sample inp) c with
  | true =>
    rw [hcommit] at hpart hvalid
    exact ⟨hpart, hvalid.trans (Bool.and_false _),
      (dmaReq_tick_of_commits hactive hcommit).trans (bit_dmaEn s.toBlock c).symm⟩
  | false =>
    rw [hcommit] at hpart hvalid
    exact ⟨hpart, hvalid.trans (Bool.and_true _)⟩

end Sys2Proof.Machine
end

section
/-! SUPPORT. The statements about encoding and the decoder that follow from their being inverses of each other, the
firing of the actions, and the two system operations (30_encoding.md R111, R118; 45_tick_events.md R268;
48_system_ops.md R341, R342). -/

namespace Sys2Proof.Machine

open Sys2Proof.Claims

/-- Settles O39: an instruction's word is that of its operation, and the operation says all of the instruction. -/
theorem encodeThenDecode : Obligations.EncodeThenDecode :=
  ⟨fun _ hm i => (decodeWith_eq_instr_iff hm _ i).mpr rfl, defaultRegMap_wellFormed⟩

/-- Settles O40: what the decoder took apart the encoder puts together again. -/
theorem decodeThenEncode : Obligations.DecodeThenEncode :=
  fun _ _ h => encodeWith_of_decodeWith h

/-- Settles O42: each word is the encoding of its instruction, which is a closed equality of words. -/
theorem exampleWordsDecode : Obligations.ExampleWordsDecode := by
  unfold Obligations.ExampleWordsDecode
  simp only [decode_eq_instr_iff]
  decide

/-- Settles O22: the firing of the statement is the model's, for every code. -/
theorem actionsFire : Obligations.ActionsFire :=
  fun b inp a c _ => (fire_eq b inp a c).symm

/-- Settles O17: `SVC` answers the arbiter's code and clears the winner's bit, which is what the loop computes. -/
theorem serviceTakesFirst : Obligations.ServiceTakesFirst := by
  intro s
  rw [serviceLoop_arbiterTable]
  exact ⟨make_eq_cmd 3 0 0, _, execSvc_next.mpr rfl, rfl, rfl⟩

/-- Settles O18: `RST` looks at no element of the state it is applied to. -/
theorem resetRestores : Obligations.ResetRestores :=
  fun _ => ⟨make_eq_cmd 4 0 0, _, rfl, rfl, rfl⟩

end Sys2Proof.Machine
end

section
/-! SUPPORT. Words with no bit outside a mask: `x &&& ~~~m = 0` (10_state.md R59 b). -/

namespace Sys2Proof.Machine

/-- A word has no bit outside `m` exactly when each of its bits is one of `m`. -/
theorem masked_iff {w : Nat} (x m : BitVec w) :
    x &&& ~~~m = 0 ↔ ∀ n, x.getLsbD n = true → m.getLsbD n = true := by
  constructor
  · intro h n hx
    have hbit : (x &&& ~~~m).getLsbD n = false := by rw [h]; exact BitVec.getLsbD_zero
    simpa [hx, BitVec.lt_of_getLsbD hx, -BitVec.getLsbD_eq_getElem] using hbit
  · intro h
    refine BitVec.eq_of_getLsbD_eq fun n hn => ?_
    cases hx : x.getLsbD n with
    | false => simp [hx, -BitVec.getLsbD_eq_getElem]
    | true => simp [hx, h n hx, -BitVec.getLsbD_eq_getElem]

section
variable {w : Nat} {x y m : BitVec w}

theorem masked_and (h : x &&& ~~~m = 0) (y : BitVec w) : (x &&& y) &&& ~~~m = 0 := by
  rw [BitVec.and_assoc, BitVec.and_comm y, ← BitVec.and_assoc, h]
  exact BitVec.zero_and

theorem masked_or (hx : x &&& ~~~m = 0) (hy : y &&& ~~~m = 0) : (x ||| y) &&& ~~~m = 0 := by
  rw [masked_iff] at *
  intro n hn
  rw [BitVec.getLsbD_or, Bool.or_eq_true] at hn
  exact hn.elim (hx n) (hy n)

/-- A word stored under a mask has no bit outside it. -/
theorem masked_and_self (d m : BitVec w) : (d &&& m) &&& ~~~m = 0 := by
  rw [masked_iff]
  intro n hn
  rw [BitVec.getLsbD_and, Bool.and_eq_true] at hn
  obtain ⟨-, hm⟩ := hn
  exact hm

end

end Sys2Proof.Machine
end

section
/-! SUPPORT. The pending causes as a list in the arbiter's order, and how a service takes its first element
(48_system_ops.md R341, 60_exceptions.md R359). -/

namespace Sys2Proof.Machine

open Sys2Proof.Claims

/-! ### The pending causes -/

/-- The pending causes, in the arbiter's order (60_exceptions.md R356). -/
def pendingCauses (sts : Word) : List (Cause × Channel) := arbiterOrder.filter fun p => pending sts p.1 p.2

/-- The arbiter's winner is the first pending cause (60_exceptions.md R356). -/
theorem arbiterWinner_eq_head? (sts : Word) : arbiterWinner sts = (pendingCauses sts).head? :=
  List.head?_filter.symm

/-- Clearing one cause bit leaves every other cause as it is (60_exceptions.md R355). -/
theorem pending_and_not_causeWord (sts : Word) (k k' : Cause) (c c' : Channel) :
    pending (sts &&& ~~~causeWord k c) k' c' = (pending sts k' c' && decide ((k', c') ≠ (k, c))) := by
  have hbit : (causeWord k c).getLsbD (causeIndex k' c') = decide ((k', c') = (k, c)) := by
    rw [causeWord, BitVec.getLsbD_twoPow, ← causeIndex, decide_eq_true (causeIndex_lt k c), Bool.true_and,
      decide_eq_decide, eq_comm (a := causeIndex k c), causeIndex_inj, Prod.mk.injEq]
  change (sts &&& ~~~causeWord k c).getLsbD (causeIndex k' c') = (sts.getLsbD (causeIndex k' c') && _)
  rw [BitVec.getLsbD_and, BitVec.getLsbD_not, decide_eq_true (causeIndex_lt k' c'), hbit, Bool.true_and, decide_not]

theorem pendingCauses_nodup (sts : Word) : (pendingCauses sts).Nodup :=
  List.Nodup.filter _ (by decide)

/-- Clearing the first pending cause leaves the others, in their order (60_exceptions.md R356). -/
theorem pendingCauses_clearWinner {sts : Word} {p : Cause × Channel} {rest : List (Cause × Channel)}
    (h : pendingCauses sts = p :: rest) : pendingCauses (clearWinner sts) = rest := by
  have hwinner : arbiterWinner sts = some p := by rw [arbiterWinner_eq_head?, h]; rfl
  have hfresh : p ∉ rest := (List.nodup_cons.mp (h ▸ pendingCauses_nodup sts)).1
  have hclear : clearWinner sts = sts &&& ~~~causeWord p.1 p.2 := by rw [clearWinner, hwinner]
  calc pendingCauses (clearWinner sts)
      = arbiterOrder.filter (fun q => decide (q ≠ p) && pending sts q.1 q.2) := by
        simp only [pendingCauses, hclear, pending_and_not_causeWord, Bool.and_comm]
    _ = (p :: rest).filter (fun q => decide (q ≠ p)) := by rw [← List.filter_filter, ← pendingCauses, h]
    _ = rest.filter (fun q => decide (q ≠ p)) := List.filter_cons_of_neg (by simp)
    _ = rest := List.filter_eq_self.mpr fun q hq => decide_eq_true fun heq => hfresh (heq ▸ hq)

/-! ### Cause bits -/

/-- `CAUSE_BITS` are the bits of the eight causes (10_state.md R35). -/
theorem exists_cause_of_getLsbD_causeBits {n : Nat} (h : causeBits.getLsbD n = true) :
    ∃ k c, n = causeIndex k c := by
  have hall : ∀ m < 32, causeBits.getLsbD m = true →
      ∃ p ∈ arbiterOrder, m = causeIndex p.1 p.2 := by decide
  obtain ⟨p, -, hp⟩ := hall n (BitVec.lt_of_getLsbD h) h
  exact ⟨p.1, p.2, hp⟩

/-- A status word with only cause bits and no cause pending is 0. -/
theorem eq_zero_of_pendingCauses_eq_nil {sts : Word} (hmasked : sts &&& ~~~causeBits = 0)
    (h : pendingCauses sts = []) : sts = 0 := by
  refine BitVec.eq_of_getLsbD_eq fun n _ => ?_
  have hnone (k : Cause) (c : Channel) : sts.getLsbD (causeIndex k c) = false :=
    arbiterWinner_none (by rw [arbiterWinner_eq_head?, h]; rfl) k c
  cases hbit : sts.getLsbD n with
  | true =>
    obtain ⟨k, c, rfl⟩ := exists_cause_of_getLsbD_causeBits ((masked_iff _ _).mp hmasked n hbit)
    exact absurd hbit (by rw [hnone]; decide)
  | false => exact BitVec.getLsbD_zero.symm

/-- A service clears status bits and sets none (48_system_ops.md R341). -/
theorem exists_clearWinner_eq_and (sts : Word) : ∃ w, clearWinner sts = sts &&& w := by
  unfold clearWinner
  split
  · exact ⟨sts, (BitVec.and_self).symm⟩
  · exact ⟨_, rfl⟩

theorem masked_clearWinner {sts m : Word} (h : sts &&& ~~~m = 0) : clearWinner sts &&& ~~~m = 0 := by
  obtain ⟨w, hw⟩ := exists_clearWinner_eq_and sts
  exact hw ▸ masked_and h w

/-! ### Services in a row -/

/-- The state after a service (48_system_ops.md R341). -/
def State.afterService (s : State) : State :=
  (s.withBlock { s.toBlock with sts := clearWinner s.sts }).answer (.cause (arbCause s.sts))

/-- A row of services is one service and then the others (48_system_ops.md R341). -/
theorem serve_succ (n : Nat) (s : State) :
    serve (n + 1) s = (serve n s.afterService).map fun p => (arbCause s.sts :: p.1, p.2) := rfl

/-- As many services as causes are pending answer their codes in the arbiter's order (60_exceptions.md R359). -/
theorem serve_pendingCauses {s : State} {ps : List (Cause × Channel)} (hmasked : s.sts &&& ~~~causeBits = 0)
    (h : pendingCauses s.sts = ps) :
    ∃ t, serve ps.length s = some (ps.map fun p => causeCode p.1 p.2, t) ∧
      t.toBlock = { s.toBlock with sts := 0 } := by
  induction ps generalizing s with
  | nil =>
    refine ⟨s, rfl, ?_⟩
    rw [← eq_zero_of_pendingCauses_eq_nil hmasked h]
  | cons p rest ih =>
    obtain ⟨t, hserve, hblock⟩ := ih (s := s.afterService) (masked_clearWinner hmasked) (pendingCauses_clearWinner h)
    have hcode : arbCause s.sts = causeCode p.1 p.2 := by rw [arbCause, arbiterWinner_eq_head?, h]; rfl
    refine ⟨t, ?_, hblock⟩
    rw [List.length_cons, serve_succ, hserve, hcode]
    rfl

/-- The pending rows of the statement's table are the pending causes with their codes (60_exceptions.md R356). -/
theorem codes_of_pending_rows (sts : Word) :
    (arbiterTable.filter fun p => sts.getLsbD p.2).map Prod.fst =
      (pendingCauses sts).map fun p => causeCode p.1 p.2 := by
  rw [arbiterTable_eq, List.filter_map, List.map_map]
  rfl

/-- Settles O58, by induction on the pending causes: each service answers and clears the first of them. -/
theorem servicesDrainAllCauses : Obligations.ServicesDrainAllCauses := by
  intro s hmasked
  dsimp only
  rw [codes_of_pending_rows, List.length_map]
  exact serve_pendingCauses hmasked rfl

end Sys2Proof.Machine
end

section
/-! SUPPORT. What an instruction can do to the block, said once: the block each register write leaves, and the inversion
lemma from which the statements about the whole machine follow (30_encoding.md R110, R144). -/

namespace Sys2Proof.Machine

open Sys2Proof.Claims

/-! ### The block a write leaves -/

/-- The block after a write of `d` to a register (40_control_regs.md to 44_interrupt_regs.md). -/
def Block.afterWrite (b : Block) (d : Word) : Reg → Block
  | .genCtrlSet => b.controlSet d
  | .genCtrlReset => { b with level := b.level &&& ~~~(d &&& levelMask) }
  | .intrSts => b
  | .intrMask => { b with mask := b.mask ||| (d &&& causeBits) }
  | .intrUnmask => { b with mask := b.mask &&& ~~~(d &&& causeBits) }
  | .intrAck => { b with sts := b.sts &&& ~~~(d &&& causeBits) }
  | .matchReg => { b with matchReg := d }
  | .captureReg => b
  | .counter => { b with counter := d }
  | .ocuCtrl => { b with ocuCtrl := d &&& ocuMask }
  | .ocuCompare => { b with ocuCompare := d }
  | .ocuCompareNxt => b.writeNextCompare d
  | .wfgCtrl => { b with wfgCtrl := d &&& wfgMask }
  | .adcSel => { b with adcSel := d &&& adcMask }
  | .arbCause => b
  | .evt a .sel => { b with evtSel := b.evtSel.set a (d &&& selMask) }
  | .evt a .and => { b with evtAnd := b.evtAnd.set a (d &&& combMask) }
  | .evt a .or => { b with evtOr := b.evtOr.set a (d &&& combMask) }

/-- A write completes in every state and leaves the block of its register (30_encoding.md R112). -/
theorem exec_wrInstr (d : Word) (r : Reg) (s : State) :
    exec (wrInstr d r) s = leavesBlock (s.afterWrite d r) s := by
  cases r with
  | evt a k =>
    cases k with
    | sel => exact exec_wr_sel a d s
    | and => exact exec_wr_and a d s
    | or => exact exec_wr_or a d s
  | _ => rfl

/-- A read completes in every state and leaves the block (20_memory.md R85). -/
theorem exec_rdInstr (r : Reg) (s : State) : ∃ v, exec (rdInstr r) s = readsAs v s := by
  cases r with
  | evt a k =>
    cases k with
    | sel => exact ⟨_, exec_rd_sel a s⟩
    | and => exact ⟨_, exec_rd_and a s⟩
    | or => exact ⟨_, exec_rd_or a s⟩
  | _ => exact ⟨_, rfl⟩

/-! ### What an instruction can do -/

/-- Every instruction is the read or the write of a register, a tick, the service or the reset
(30_encoding.md R110). -/
theorem instr_cases (i : Instr) :
    (∃ r, i = rdInstr r) ∨ (∃ r d, i = wrInstr d r) ∨ (∃ inp, i = .tick inp) ∨ i = .svc ∨ i = .rst := by
  rw [← ofOp_toOp i]
  cases i.toOp with
  | rd r => exact .inl ⟨r, rfl⟩
  | wr r d => exact .inr (.inl ⟨r, d, rfl⟩)
  | tick inp => exact .inr (.inr (.inl ⟨inp, rfl⟩))
  | svc => exact .inr (.inr (.inr (.inl rfl)))
  | rst => exact .inr (.inr (.inr (.inr rfl)))

/-- Everything an instruction that completes can do to the block: a read leaves it, a write leaves the block of its
register, a tick was allowed and is performed, and the two system operations do what they do in every state. -/
theorem exec_next_cases {i : Instr} {s t : State} (h : exec i s = .next t) :
    ((∃ r, i = rdInstr r) ∧ t.toBlock = s.toBlock) ∨
    (∃ r d, i = wrInstr d r ∧ t.toBlock = s.afterWrite d r) ∨
    (∃ inp, i = .tick inp ∧ t.toBlock = s.tick inp) ∨
    (i = .svc ∧ t.toBlock = { s.toBlock with sts := clearWinner s.sts }) ∨
    (i = .rst ∧ t.toBlock = .reset) := by
  obtain ⟨r, rfl⟩ | ⟨r, d, rfl⟩ | ⟨inp, rfl⟩ | rfl | rfl := instr_cases i
  · obtain ⟨v, hread⟩ := exec_rdInstr r s
    obtain rfl := readsAs_next.mp (hread ▸ h)
    exact .inl ⟨⟨r, rfl⟩, rfl⟩
  · obtain rfl := leavesBlock_next.mp (exec_wrInstr d r s ▸ h)
    exact .inr (.inl ⟨r, d, rfl, rfl⟩)
  · obtain ⟨-, hblock, -⟩ := execTick_next h
    exact .inr (.inr (.inl ⟨inp, rfl, hblock⟩))
  · cases h
    exact .inr (.inr (.inr (.inl ⟨rfl, rfl⟩)))
  · cases h
    exact .inr (.inr (.inr (.inr ⟨rfl, rfl⟩)))

/-- No instruction touches the operations issued after it or the peripheral clock, and none answers with the error
response (00_scope.md R10, 60_exceptions.md R350, R371). -/
theorem exec_next_frame {i : Instr} {s t : State} (h : exec i s = .next t) :
    t.issued = s.issued ∧ t.clockOn = s.clockOn ∧ ∀ kind dir off, t.resp ≠ .busError kind dir off := by
  obtain ⟨v, hread⟩ | ⟨b, hleave⟩ | rfl | ⟨inp, rfl⟩ := exec_cases i s
  · obtain rfl := readsAs_next.mp (hread ▸ h)
    exact ⟨rfl, rfl, by simp⟩
  · obtain rfl := leavesBlock_next.mp (hleave ▸ h)
    exact ⟨rfl, rfl, by simp⟩
  · obtain rfl := execSvc_next.mp h
    exact ⟨rfl, rfl, by simp⟩
  · obtain ⟨-, -, hissued, hresp, hclock⟩ := execTick_next h
    exact ⟨hissued, hclock, by simp [hresp]⟩

/-! ### What a write can change -/

/-- The pulses of a control-set write touch no output and no pending flag (40_control_regs.md R153, R154). -/
theorem controlSet_out_nxtValid (b : Block) (d : Word) (c : Channel) :
    ((b.controlSet d).chan c).out = (b.chan c).out ∧ ((b.controlSet d).chan c).nxtValid = (b.chan c).nxtValid := by
  by_cases hactive : c ∈ activeChannels (b.controlSet d).mode32
  · rw [controlSet_chan_of_active hactive, pulsed_eq]
    exact ⟨rfl, rfl⟩
  · rw [controlSet_chan_of_inactive hactive]
    exact ⟨rfl, rfl⟩

/-- A write of OCU_COMPARE_NXT touches no one-bit element but the pending flags (43_ocu_wfg_regs.md R218). -/
theorem writeNextCompare_eq_nxtValid (b : Block) (d : Word) (c : Channel) :
    (b.writeNextCompare d).chan c =
      { b.chan c with nxtValid := ((b.writeNextCompare d).chan c).nxtValid } := by
  rw [writeNextCompare_chan]
  split_ifs <;> rfl

/-- Which words can differ between two blocks when register `r` was written in between: each names the registers whose
write can reach it (10_state.md R23 to R53). -/
structure ReachedByWrite (r : Reg) (b b' : Block) : Prop where
  level : b'.level ≠ b.level → r = .genCtrlSet ∨ r = .genCtrlReset
  sts : b'.sts ≠ b.sts → r = .intrAck ∨ r = .ocuCompareNxt
  mask : b'.mask ≠ b.mask → r = .intrMask ∨ r = .intrUnmask
  matchReg : b'.matchReg ≠ b.matchReg → r = .matchReg
  counter : b'.counter ≠ b.counter → r = .counter ∨ r = .genCtrlSet
  captureReg : b'.captureReg = b.captureReg
  ocuCtrl : b'.ocuCtrl ≠ b.ocuCtrl → r = .ocuCtrl
  ocuCompare : b'.ocuCompare ≠ b.ocuCompare → r = .ocuCompare ∨ r = .ocuCompareNxt
  ocuCompareNxt : b'.ocuCompareNxt ≠ b.ocuCompareNxt → r = .ocuCompareNxt
  wfgCtrl : b'.wfgCtrl ≠ b.wfgCtrl → r = .wfgCtrl
  adcSel : b'.adcSel ≠ b.adcSel → r = .adcSel
  evtSel : ∀ a, b'.evtSel.get a ≠ b.evtSel.get a → r = .evt a .sel
  evtAnd : ∀ a, b'.evtAnd.get a ≠ b.evtAnd.get a → r = .evt a .and
  evtOr : ∀ a, b'.evtOr.get a ≠ b.evtOr.get a → r = .evt a .or
  prevIn : b'.prevIn = b.prevIn
  riseReg : b'.riseReg = b.riseReg

/-- Each write reaches the words the rules name for its register, and no other. -/
theorem reachedByWrite_afterWrite (b : Block) (d : Word) (r : Reg) : ReachedByWrite r b (b.afterWrite d r) := by
  cases r with
  | genCtrlSet =>
    obtain ⟨n, x, y, hframe⟩ := controlSet_sameRegisters b d
    constructor <;> simp [Block.afterWrite, hframe]
  | ocuCompareNxt =>
    obtain ⟨compare, sts, valid0, valid1, hframe⟩ := writeNextCompare_frame b d
    constructor <;> simp [Block.afterWrite, hframe]
  | evt a k =>
    have hset {r : ActionRegs} {a' : Action} {v : Word} (k : EventReg) (h : (r.set a v).get a' ≠ r.get a') :
        Reg.evt a k = .evt a' k := by
      by_contra hne
      exact h (actionRegs_get_set_other r a a' v fun heq => hne (heq ▸ rfl))
    cases k with
    | sel =>
      constructor
      case evtSel => exact fun _ => hset .sel
      all_goals simp [Block.afterWrite]
    | and =>
      constructor
      case evtAnd => exact fun _ => hset .and
      all_goals simp [Block.afterWrite]
    | or =>
      constructor
      case evtOr => exact fun _ => hset .or
      all_goals simp [Block.afterWrite]
  | _ => constructor <;> simp [Block.afterWrite]

/-- Only the control-set write and the write of OCU_COMPARE_NXT touch the one-bit elements of a channel
(10_state.md R33, R40 to R43). -/
theorem afterWrite_chan {r : Reg} (hset : r ≠ .genCtrlSet) (hnext : r ≠ .ocuCompareNxt) (b : Block) (d : Word)
    (c : Channel) : (b.afterWrite d r).chan c = b.chan c := by
  cases r with
  | genCtrlSet => exact absurd rfl hset
  | ocuCompareNxt => exact absurd rfl hnext
  | evt a k => cases k <;> cases c <;> rfl
  | _ => cases c <;> rfl

/-- No write moves an output (47_tick_output.md R327). -/
theorem afterWrite_out (b : Block) (d : Word) (r : Reg) (c : Channel) :
    ((b.afterWrite d r).chan c).out = (b.chan c).out := by
  by_cases hset : r = .genCtrlSet
  · subst hset
    exact (controlSet_out_nxtValid b d c).1
  by_cases hnext : r = .ocuCompareNxt
  · subst hnext
    rw [Block.afterWrite, writeNextCompare_eq_nxtValid]
  · rw [afterWrite_chan hset hnext]

/-- A pending flag is changed by the write of OCU_COMPARE_NXT alone (10_state.md R33). -/
theorem afterWrite_nxtValid {r : Reg} (hnext : r ≠ .ocuCompareNxt) (b : Block) (d : Word) (c : Channel) :
    ((b.afterWrite d r).chan c).nxtValid = (b.chan c).nxtValid := by
  by_cases hset : r = .genCtrlSet
  · subst hset
    exact (controlSet_out_nxtValid b d c).2
  · rw [afterWrite_chan hset hnext]

/-- A run state is changed by the control-set write alone (10_state.md R40 to R42). -/
theorem afterWrite_runState {r : Reg} (hset : r ≠ .genCtrlSet) (b : Block) (d : Word) (c : Channel) :
    ((b.afterWrite d r).chan c).run = (b.chan c).run ∧ ((b.afterWrite d r).chan c).halt = (b.chan c).halt ∧
      ((b.afterWrite d r).chan c).phase = (b.chan c).phase := by
  by_cases hnext : r = .ocuCompareNxt
  · subst hnext
    rw [Block.afterWrite, writeNextCompare_eq_nxtValid]
    exact ⟨rfl, rfl, rfl⟩
  · rw [afterWrite_chan hset hnext]
    exact ⟨rfl, rfl, rfl⟩

/-! ### What an instruction can change -/

/-- The status word holds no one-bit element of a channel (10_state.md R20). -/
theorem chan_withSts (b : Block) (sts : Word) (c : Channel) : { b with sts := sts }.chan c = b.chan c := by
  cases c <;> rfl

/-- Settles O48: reads change nothing, a write reaches the elements of its register, a tick writes neither the
configuration nor the mask, and the service writes the status word. -/
theorem onlyItsWritersChangeIt : Obligations.OnlyItsWritersChangeIt := by
  intro i s t h hrst
  obtain ⟨⟨r, rfl⟩, hblock⟩ | ⟨r, d, rfl, hblock⟩ | ⟨inp, rfl, hblock⟩ | ⟨rfl, hblock⟩ | ⟨rfl, -⟩ := exec_next_cases h
  · simp [hblock]
  · have hreach := reachedByWrite_afterWrite s.toBlock d r
    rw [← hblock] at hreach
    refine ⟨fun hne => hreach.matchReg hne ▸ ⟨d, rfl⟩, fun hne => absurd hreach.captureReg hne, fun hne => ?_,
      fun hne => ?_, fun hne => hreach.ocuCompareNxt hne ▸ ⟨d, rfl⟩,
      fun hne => absurd hne (not_or.mpr ⟨not_not.mpr hreach.prevIn, not_not.mpr hreach.riseReg⟩),
      fun hne => ?_, fun hne => ?_, fun hne => ?_, fun hne => hreach.ocuCtrl hne ▸ ⟨d, rfl⟩,
      fun hne => hreach.wfgCtrl hne ▸ ⟨d, rfl⟩, fun hne => hreach.adcSel hne ▸ ⟨d, rfl⟩,
      fun a => ⟨fun hne => ?_, fun hne => ?_, fun hne => ?_⟩, fun c => ⟨fun hne => ?_, fun hne => ?_, fun hne => ?_⟩⟩
    · obtain rfl | rfl := hreach.counter hne
      · exact .inr (.inl ⟨d, rfl⟩)
      · exact .inr (.inr ⟨d, rfl⟩)
    · obtain rfl | rfl := hreach.ocuCompare hne
      · exact .inr (.inl ⟨d, rfl⟩)
      · exact .inr (.inr ⟨d, rfl⟩)
    · obtain rfl | rfl := hreach.mask hne
      · exact .inl ⟨d, rfl⟩
      · exact .inr ⟨d, rfl⟩
    · obtain rfl | rfl := hreach.level hne
      · exact .inl ⟨d, rfl⟩
      · exact .inr ⟨d, rfl⟩
    · obtain rfl | rfl := hreach.sts hne
      · exact .inr (.inr (.inl ⟨d, rfl⟩))
      · exact .inr (.inr (.inr ⟨d, rfl⟩))
    · exact hreach.evtSel a hne ▸ ⟨d, toOp_wrInstr d _⟩
    · exact hreach.evtAnd a hne ▸ ⟨d, toOp_wrInstr d _⟩
    · exact hreach.evtOr a hne ▸ ⟨d, toOp_wrInstr d _⟩
    · exact absurd (by rw [hblock]; exact afterWrite_out _ d r c) hne
    · obtain rfl : r = .ocuCompareNxt := by
        by_contra hr
        exact hne (by rw [hblock]; exact afterWrite_nxtValid hr _ d c)
      exact .inr ⟨d, rfl⟩
    · obtain rfl : r = .genCtrlSet := by
        by_contra hr
        have hsame := afterWrite_runState hr s.toBlock d c
        rw [← hblock] at hsame
        simp [hsame] at hne
      exact .inr ⟨d, rfl⟩
  · simp [hblock]
  · simp [hblock, chan_withSts, out]
  · exact absurd rfl hrst

/-! ### Writing twice -/

/-- A register of one action keeps the last word stored (42_event_regs.md R430). -/
theorem actionRegs_set_set (r : ActionRegs) (a : Action) (v v' : Word) : (r.set a v).set a v' = r.set a v' := by
  cases a <;> rfl

/-- Two words with the same two halves are the same word (00_scope.md R8). -/
theorem eq_of_slices {v w : Word} (h : ∀ c, slice false v c = slice false w c) : v = w := by
  have hlow := congrArg BitVec.toNat (h .c0)
  have hhigh := congrArg BitVec.toNat (h .c1)
  rw [← part_eq_toNat_slice, ← part_eq_toNat_slice] at hlow hhigh
  simp only [part, idx, Bool.false_eq_true, if_false] at hlow hhigh
  apply BitVec.eq_of_toNat_eq
  omega

/-- Two words whose slices agree in every active channel are the same word (00_scope.md R8). -/
theorem eq_of_active_slices {m : Bool} {v w : Word} (h : ∀ c ∈ activeChannels m, slice m v c = slice m w c) :
    v = w := by
  cases m with
  | true => exact h .c0 (by decide)
  | false => exact eq_of_slices fun c => h c ((mem_activeChannels _ _).mpr (.inr rfl))

/-- The control bits a write sets are set already when it is repeated (40_control_regs.md R152). -/
theorem setLevel_controlSet (b : Block) (d : Word) : (b.controlSet d).setLevel d = b.controlSet d := by
  rw [Block.setLevel, controlSet_level, BitVec.or_assoc, BitVec.or_self, ← controlSet_level]

/-- A block is known by its counts, the one-bit elements of its channels and its other registers. -/
theorem SameRegisters.eq_of {b b' : Block} (h : SameRegisters b b') (hcounter : b'.counter = b.counter)
    (hchan : ∀ c, b'.chan c = b.chan c) : b' = b := by
  obtain ⟨n, x, y, rfl⟩ := h
  obtain rfl : n = b.counter := hcounter
  obtain rfl : x = b.ch0 := hchan .c0
  obtain rfl : y = b.ch1 := hchan .c1
  rfl

/-- The pulses of a repeated write leave a channel where the first ones did (40_control_regs.md R153, R154). -/
theorem pulsed_pulsed (x : ChanState) (reset started : Bool) :
    (x.pulsed reset started).pulsed reset started = x.pulsed reset started := by
  cases reset <;> cases started <;> rfl

/-- A repeated control-set write finds its level bits set, its counts cleared and its channels in the state it would
leave them in (20_memory.md R86). -/
theorem controlSet_controlSet (b : Block) (d : Word) : (b.controlSet d).controlSet d = b.controlSet d := by
  have hframe := controlSet_sameRegisters (b.controlSet d) d
  rw [setLevel_controlSet] at hframe
  have hlevel : ((b.controlSet d).controlSet d).level = (b.controlSet d).level := by
    obtain ⟨n, x, y, hsame⟩ := hframe
    rw [hsame]
  have hmode : ((b.controlSet d).controlSet d).mode32 = (b.controlSet d).mode32 := by rw [Block.mode32, hlevel]; rfl
  have htriggered (c : Channel) : ((b.controlSet d).controlSet d).triggered d c = (b.controlSet d).triggered d c := by
    rw [Block.triggered, hmode, Block.syncTrig, hlevel]
    rfl
  refine hframe.eq_of (eq_of_active_slices (m := (b.controlSet d).mode32) fun c hactive => ?_) fun c => ?_
  · have honce := controlSet_slice_of_active hactive
    have htwice := controlSet_slice_of_active (b := b.controlSet d) (hmode.symm ▸ hactive)
    rw [hmode] at htwice
    rw [htwice, honce]
    split_ifs <;> rfl
  · by_cases hactive : c ∈ activeChannels (b.controlSet d).mode32
    · rw [controlSet_chan_of_active (b := b.controlSet d) (hmode.symm ▸ hactive), htriggered,
        controlSet_chan_of_active hactive, pulsed_pulsed]
    · exact controlSet_chan_of_inactive (hmode.symm ▸ hactive)

/-- Every write but that of OCU_COMPARE_NXT leaves the second time what it left the first (20_memory.md R86). -/
theorem afterWrite_afterWrite {r : Reg} (hr : r ≠ .ocuCompareNxt) (b : Block) (d : Word) :
    (b.afterWrite d r).afterWrite d r = b.afterWrite d r := by
  cases r with
  | genCtrlSet => exact controlSet_controlSet b d
  | ocuCompareNxt => exact absurd rfl hr
  | genCtrlReset => simp only [Block.afterWrite, BitVec.and_assoc, BitVec.and_self]
  | intrMask => simp only [Block.afterWrite, BitVec.or_assoc, BitVec.or_self]
  | intrUnmask => simp only [Block.afterWrite, BitVec.and_assoc, BitVec.and_self]
  | intrAck => simp only [Block.afterWrite, BitVec.and_assoc, BitVec.and_self]
  | evt a k => cases k <;> simp only [Block.afterWrite, actionRegs_set_set]
  | _ => rfl

/-- Settles O49: a write completes in every state, and repeated it leaves the block as it is. -/
theorem writesIdempotent : Obligations.WritesIdempotent :=
  fun r d s hr => ⟨_, _, exec_wrInstr d r s, exec_wrInstr d r _, afterWrite_afterWrite hr s.toBlock d⟩

end Sys2Proof.Machine
end

section
/-! SUPPORT. The invariants of 10_state.md R59, kept by every instruction and so by every step. -/

namespace Sys2Proof.Machine

open Sys2Proof.Claims

/-! ### The run state -/

/-- Invariant (a), channel by channel (10_state.md R59). -/
theorem haltImpliesRun_iff (b : Block) :
    b.HaltImpliesRun ↔ ∀ c, (b.chan c).halt = true → (b.chan c).run = true := by
  constructor
  · rintro ⟨h0, h1⟩ c
    cases c with
    | c0 => exact h0
    | c1 => exact h1
  · exact fun h => ⟨h .c0, h .c1⟩

/-- The pulses of a control-set write start a channel not halted or clear its run state (40_control_regs.md R153,
R154). -/
theorem halt_imp_run_pulsed {x : ChanState} (h : x.halt = true → x.run = true) (reset started : Bool) :
    (x.pulsed reset started).halt = true → (x.pulsed reset started).run = true := by
  simp only [pulsed_eq, Bool.and_eq_true, Bool.not_eq_true']
  rintro ⟨⟨-, hreset⟩, hhalt⟩
  simp [hreset, h hhalt]

theorem haltImpliesRun_controlSet {b : Block} (h : b.HaltImpliesRun) (d : Word) :
    (b.controlSet d).HaltImpliesRun := by
  rw [haltImpliesRun_iff] at h ⊢
  intro c
  by_cases hactive : c ∈ activeChannels (b.controlSet d).mode32
  · rw [controlSet_chan_of_active hactive]
    exact halt_imp_run_pulsed (h c) _ _
  · rw [controlSet_chan_of_inactive hactive]
    exact h c

theorem haltImpliesRun_afterWrite {b : Block} (h : b.HaltImpliesRun) (d : Word) (r : Reg) :
    (b.afterWrite d r).HaltImpliesRun := by
  by_cases hset : r = .genCtrlSet
  · subst hset
    exact haltImpliesRun_controlSet h d
  · rw [haltImpliesRun_iff] at h ⊢
    intro c
    obtain ⟨hrun, hhalt, -⟩ := afterWrite_runState hset b d c
    rw [hrun, hhalt]
    exact h c

/-- A tick halts no active channel that it leaves stopped, and leaves an inactive one alone (46_tick_counting.md R306,
R312). -/
theorem haltImpliesRun_tick {b : Block} (h : b.HaltImpliesRun) (inp : BitVec 4) : (b.tick inp).HaltImpliesRun := by
  rw [haltImpliesRun_iff] at h ⊢
  intro c
  cases hactive : isActive b c with
  | true =>
    rw [tick_halt hactive]
    cases ((b.tick inp).chan c).run <;> simp
  | false =>
    have hinactive : c ∉ activeChannels b.mode32 := by rw [← isActive_iff, hactive]; decide
    rw [mem_activeChannels, not_or, Bool.not_eq_false] at hinactive
    obtain ⟨hc, hmode⟩ := hinactive
    obtain rfl : c = .c1 := by cases c <;> simp_all
    rw [chan_c1, tick_ch1_mode32 b inp hmode]
    exact h .c1

/-! ### The status word -/

/-- Raising a cause sets a bit of `CAUSE_BITS` or none (60_exceptions.md R355). -/
theorem masked_raiseCause {sts : Word} (h : sts &&& ~~~causeBits = 0) (cond : Bool) (k : Cause) (c : Channel) :
    raiseCause cond k c sts &&& ~~~causeBits = 0 := by
  have hcause : causeWord k c &&& ~~~causeBits = 0 := by cases k <;> cases c <;> decide
  unfold raiseCause
  split_ifs
  · exact masked_or h hcause
  · exact h

theorem masked_sts_writeChannel {b : Block} (h : b.sts &&& ~~~causeBits = 0) (c : Channel) (r : ChannelTick) :
    (b.writeChannel c r).sts &&& ~~~causeBits = 0 :=
  masked_raiseCause (masked_raiseCause (masked_raiseCause h _ _ _) _ _ _) _ _ _

/-- A tick sets only cause bits (46_tick_counting.md R309 to R311). -/
theorem masked_sts_tick {b : Block} (h : b.sts &&& ~~~causeBits = 0) (inp : BitVec 4) :
    (b.tick inp).sts &&& ~~~causeBits = 0 :=
  List.foldlRecOn (motive := fun b' : Block => b'.sts &&& ~~~causeBits = 0) _ _ h
    fun _ h' c _ => masked_sts_writeChannel h' c _

/-- A write of OCU_COMPARE_NXT sets only cause bits (43_ocu_wfg_regs.md R218). -/
theorem masked_sts_writeNextCompare {b : Block} (h : b.sts &&& ~~~causeBits = 0) (d : Word) :
    (b.writeNextCompare d).sts &&& ~~~causeBits = 0 :=
  List.foldlRecOn (motive := fun b' : Block => b'.sts &&& ~~~causeBits = 0) _ _ h
    fun _ h' _ _ => bufferCompare_sts d _ _ ▸ masked_raiseCause h' _ _ _

/-! ### The masked words -/

/-- Every write stores its register under the register's mask (10_state.md R59 b). -/
theorem registersMasked_afterWrite {b : Block} (h : b.RegistersMasked) (d : Word) (r : Reg) :
    (b.afterWrite d r).RegistersMasked := by
  have ⟨hlevel, hsts, hmask, hocu, hwfg, hadc⟩ := h
  cases r with
  | genCtrlSet =>
    obtain ⟨n, x, y, hframe⟩ := controlSet_sameRegisters b d
    rw [Block.afterWrite, hframe]
    exact ⟨masked_or hlevel (masked_and_self d _), hsts, hmask, hocu, hwfg, hadc⟩
  | genCtrlReset => exact ⟨masked_and hlevel _, hsts, hmask, hocu, hwfg, hadc⟩
  | intrMask => exact ⟨hlevel, hsts, masked_or hmask (masked_and_self d _), hocu, hwfg, hadc⟩
  | intrUnmask => exact ⟨hlevel, hsts, masked_and hmask _, hocu, hwfg, hadc⟩
  | intrAck => exact ⟨hlevel, masked_and hsts _, hmask, hocu, hwfg, hadc⟩
  | ocuCtrl => exact ⟨hlevel, hsts, hmask, masked_and_self d _, hwfg, hadc⟩
  | ocuCompareNxt =>
    have hsts' := masked_sts_writeNextCompare hsts d
    obtain ⟨compare, sts, valid0, valid1, hframe⟩ := writeNextCompare_frame b d
    rw [hframe] at hsts'
    rw [Block.afterWrite, hframe]
    exact ⟨hlevel, hsts', hmask, hocu, hwfg, hadc⟩
  | wfgCtrl => exact ⟨hlevel, hsts, hmask, hocu, masked_and_self d _, hadc⟩
  | adcSel => exact ⟨hlevel, hsts, hmask, hocu, hwfg, masked_and_self d _⟩
  | evt a k => cases k <;> exact h
  | intrSts | matchReg | captureReg | counter | ocuCompare | arbCause => exact h

/-- Every select and combiner register is stored under its mask (10_state.md R59 b). -/
theorem eventsMasked_afterWrite {b : Block} (h : b.EventsMasked) (d : Word) (r : Reg) :
    (b.afterWrite d r).EventsMasked := by
  have hreach := reachedByWrite_afterWrite b d r
  intro a ha
  obtain ⟨hsel, hand, hor⟩ := h a ha
  refine ⟨?_, ?_, ?_⟩
  · by_cases hsame : (b.afterWrite d r).evtSel.get a = b.evtSel.get a
    · rw [hsame, hsel]
    · obtain rfl := hreach.evtSel a hsame
      rw [Block.afterWrite, actionRegs_get_set_same, masked_and_self]
  · by_cases hsame : (b.afterWrite d r).evtAnd.get a = b.evtAnd.get a
    · rw [hsame, hand]
    · obtain rfl := hreach.evtAnd a hsame
      rw [Block.afterWrite, actionRegs_get_set_same, masked_and_self]
  · by_cases hsame : (b.afterWrite d r).evtOr.get a = b.evtOr.get a
    · rw [hsame, hor]
    · obtain rfl := hreach.evtOr a hsame
      rw [Block.afterWrite, actionRegs_get_set_same, masked_and_self]

/-! ### The step -/

/-- Settles O44: the invariants hold after reset, a closed statement about one state. -/
theorem resetSatisfiesInvariants : Obligations.ResetSatisfiesInvariants := by
  unfold Obligations.ResetSatisfiesInvariants
  decide

theorem inv_tick {b : Block} (h : b.Inv) (inp : BitVec 4) : (b.tick inp).Inv := by
  obtain ⟨hrun, ⟨hlevel, hsts, hmask, hocu, hwfg, hadc⟩, hevents⟩ := h
  refine ⟨haltImpliesRun_tick hrun inp, ⟨?_, masked_sts_tick hsts inp, ?_, ?_, ?_, ?_⟩, fun a ha => ?_⟩
  · rw [tick_level, hlevel]
  · rw [tick_mask, hmask]
  · rw [tick_ocuCtrl, hocu]
  · rw [tick_wfgCtrl, hwfg]
  · rw [tick_adcSel, hadc]
  · rw [tick_evtSel, tick_evtAnd, tick_evtOr]
    exact hevents a ha

/-- Every instruction keeps the invariants (10_state.md R59). -/
theorem inv_of_exec {i : Instr} {s t : State} (hinv : s.Inv) (h : exec i s = .next t) : t.Inv := by
  obtain ⟨-, hblock⟩ | ⟨r, d, -, hblock⟩ | ⟨inp, -, hblock⟩ | ⟨-, hblock⟩ | ⟨-, hblock⟩ := exec_next_cases h <;>
    rw [hblock]
  · exact hinv
  · obtain ⟨hrun, hregisters, hevents⟩ := hinv
    exact ⟨haltImpliesRun_afterWrite hrun d r, registersMasked_afterWrite hregisters d r,
      eventsMasked_afterWrite hevents d r⟩
  · exact inv_tick hinv inp
  · obtain ⟨hrun, ⟨hlevel, hsts, hothers⟩, hevents⟩ := hinv
    exact ⟨hrun, ⟨hlevel, masked_clearWinner hsts, hothers⟩, hevents⟩
  · exact resetSatisfiesInvariants

/-- Settles O43: a step is an instruction, or it leaves the block. -/
theorem stepKeepsInvariants : Obligations.StepKeepsInvariants := by
  intro s t hinv h
  obtain ⟨-, rfl⟩ | ⟨w, rest, i, -, -, hexec⟩ | ⟨w, rest, inp, -, -, -, rfl⟩ | ⟨w, rest, kind, dir, off, -, -, rfl⟩ :=
    step_next_cases h
  · exact hinv
  · exact inv_of_exec (s := { s with issued := rest }) hinv hexec
  · exact hinv
  · exact hinv

end Sys2Proof.Machine
end

section
/-! SUPPORT. What keeps a tick allowed, and any sequence of disciplined operations (45_tick_events.md R261,
70_reset_and_hazards.md R414). -/

namespace Sys2Proof.Machine

open Sys2Proof.Claims

/-- A word whose two codes are not reserved has both below 39 (45_tick_events.md R264). -/
theorem field_lt_of_noReservedCode {d : Word} (h : noReservedCode d = true) (c : Channel) : field d 0 6 c < 39 := by
  have hsome : (Event.ofCode (eventField d c)).isSome = true := List.all_eq_true.mp h c c.mem_all
  rw [field_eq_toNat_eventField, ← Nat.not_le, ← Event.ofCode_eq_none_iff]
  exact Option.isSome_iff_ne_none.mp hsome

/-- A stored OCU_CTRL word without a `SYNC_EN_c` bit has none under the mask of R261 (45_tick_events.md R261 a). -/
theorem no_syncEn_of_disciplined {d : Word} (h : disciplined (.wr .ocuCtrl d) = true) :
    d &&& ocuMask &&& 0x00020002#32 = 0 := by
  have hbits : (!chanBit d syncEnBit .c0 && !chanBit d syncEnBit .c1) = true := h
  refine (anySyncEn_eq_false_iff { Block.reset with ocuCtrl := d &&& ocuMask }).mp ?_
  rw [Block.anySyncEn, Block.syncEn, Block.syncEn, chanBit_and_ocuMask_syncEn, chanBit_and_ocuMask_syncEn]
  simpa using hbits

/-- A write that stores no reserved code and no `SYNC_EN_c` bit keeps ticks allowed (70_reset_and_hazards.md R414). -/
theorem allowed_afterWrite {b : Block} {d : Word} {r : Reg} (hallowed : Allowed b)
    (h : disciplined (.wr r d) = true) : Allowed (b.afterWrite d r) := by
  obtain ⟨hsync, hcodes⟩ := hallowed
  have hreach := reachedByWrite_afterWrite b d r
  have hcode (a : Action) (c : Channel) (hc : eventCode b a c < 39) : eventCode (b.afterWrite d r) a c < 39 := by
    by_cases hsame : (b.afterWrite d r).evtSel.get a = b.evtSel.get a
    · rwa [eventCode, hsame]
    · obtain rfl := hreach.evtSel a hsame
      rw [Block.afterWrite, eventCode_set_evtSel]
      exact field_lt_of_noReservedCode h c
  refine ⟨?_, fun a ha => ?_⟩
  · by_cases hsame : (b.afterWrite d r).ocuCtrl = b.ocuCtrl
    · rw [hsame, hsync]
    · obtain rfl := hreach.ocuCtrl hsame
      exact no_syncEn_of_disciplined h
  · obtain ⟨h0, h1⟩ := hcodes a ha
    exact ⟨hcode a .c0 h0, hcode a .c1 h1⟩

theorem allowed_tick {b : Block} (h : Allowed b) (inp : BitVec 4) : Allowed (b.tick inp) := by
  simpa only [Allowed, tick_ocuCtrl, eventCode_tick] using h

theorem allowed_reset : Allowed Block.reset := by decide

/-- A disciplined instruction is performed where a tick is allowed, and a tick is allowed after it
(70_reset_and_hazards.md R414). -/
theorem exec_of_disciplined {i : Instr} {s : State} (hallowed : Allowed s.toBlock) (h : disciplined i.toOp = true) :
    ∃ t, exec i s = .next t ∧ Allowed t.toBlock := by
  obtain ⟨r, rfl⟩ | ⟨r, d, rfl⟩ | ⟨inp, rfl⟩ | rfl | rfl := instr_cases i
  · obtain ⟨v, hread⟩ := exec_rdInstr r s
    exact ⟨_, hread, hallowed⟩
  · rw [toOp_wrInstr] at h
    exact ⟨_, exec_wrInstr d r s, allowed_afterWrite hallowed h⟩
  · exact ⟨_, exec_tick_of_allowed hallowed inp, allowed_tick hallowed inp⟩
  · exact ⟨_, rfl, hallowed⟩
  · exact ⟨_, rfl, allowed_reset⟩

/-- Settles O51, by induction on the operations: each is performed and leaves ticks allowed for the next. -/
theorem disciplineNeverRefused : Obligations.DisciplineNeverRefused := by
  intro is s hallowed h
  induction is generalizing s with
  | nil => exact ⟨s, rfl, hallowed⟩
  | cons i is ih =>
    obtain ⟨hi, his⟩ := List.forall_mem_cons.mp h
    obtain ⟨u, hexec, hu⟩ := exec_of_disciplined hallowed hi
    obtain ⟨t, hrun, ht⟩ := ih u hu his
    exact ⟨t, by rw [runInstrs, hexec]; exact hrun, ht⟩

end Sys2Proof.Machine
end

section
/-! SUPPORT. Which operations set and clear a status bit or a mask bit, and so move the interrupt line
(10_state.md R35, R36; 60_exceptions.md R355, R357, R360). -/

namespace Sys2Proof.Machine

open Sys2Proof.Claims

/-! ### Status bits -/

/-- A tick raises PEAK, ZERO and EVENT bits only (46_tick_counting.md R309 to R311). -/
theorem mem_of_raises {b : Block} {inp : BitVec 4} {c : Channel} {n : Nat} (h : raises b inp c n = true) :
    n ∈ [0, 2, 3, 16, 18, 19] := by
  simp only [raises, Bool.or_eq_true, Bool.and_eq_true, beq_iff_eq] at h
  obtain (⟨rfl, -⟩ | ⟨rfl, -⟩) | ⟨rfl, -⟩ := h <;> cases c <;> decide

/-- A bit of `STS` that a tick sets is one of those it raises (46_tick_counting.md R309 to R311). -/
theorem mem_of_sts_set_by_tick {b : Block} {inp : BitVec 4} {n : Nat} (hclear : b.sts.getLsbD n = false)
    (hset : (b.tick inp).sts.getLsbD n = true) : n ∈ [0, 2, 3, 16, 18, 19] := by
  rw [getLsbD_sts_tick, hclear, Bool.false_or, List.any_eq_true] at hset
  obtain ⟨c, -, hc⟩ := hset
  exact mem_of_raises (Bool.and_eq_true_iff.mp hc).2

/-- A tick clears no bit of `STS` (60_exceptions.md R355). -/
theorem sts_kept_by_tick {b : Block} {n : Nat} (h : b.sts.getLsbD n = true) (inp : BitVec 4) :
    (b.tick inp).sts.getLsbD n = true := by
  rw [getLsbD_sts_tick, h, Bool.true_or]

/-- A write of OCU_COMPARE_NXT clears no bit of `STS` (60_exceptions.md R355). -/
theorem sts_kept_by_writeNextCompare {b : Block} {n : Nat} (h : b.sts.getLsbD n = true) (d : Word) :
    (b.writeNextCompare d).sts.getLsbD n = true :=
  List.foldlRecOn (motive := fun b' : Block => b'.sts.getLsbD n = true) _ _ h fun _ h' _ _ => by
    rw [bufferCompare_sts, raiseCause_getLsbD, h', Bool.true_or]

/-- Settles O47: of the five operations that write `STS`, the tick and the write of OCU_COMPARE_NXT only set bits, and
the acknowledge, the service and the reset only clear them. -/
theorem statusBitsChangedOnlyBy : Obligations.StatusBitsChangedOnlyBy := by
  intro i s t n h
  obtain hsts | ⟨d, rfl, hsts⟩ | ⟨d, rfl, hsts⟩ | ⟨inp, rfl, hsts⟩ | ⟨rfl, hsts⟩ | ⟨rfl, hsts⟩ := exec_sts_cases h <;>
    rw [hsts]
  · exact ⟨fun hclear hset => absurd hset (by simp [hclear]), fun hset hclear => absurd hset (by simp [hclear])⟩
  · refine ⟨fun hclear hset => absurd hset (by simp [hclear]), fun hset hclear => .inr (.inr ⟨d, rfl, ?_⟩)⟩
    have hbit : (d.getLsbD n && causeBits.getLsbD n) = true := by
      simpa [hset, BitVec.lt_of_getLsbD hset, -BitVec.getLsbD_eq_getElem] using hclear
    exact (Bool.and_eq_true_iff.mp hbit).1
  · refine ⟨fun hclear hset => .inr ⟨d, rfl, ?_⟩, fun hset hclear => ?_⟩
    · by_contra hn
      rw [List.mem_pair, not_or] at hn
      obtain ⟨h1, h17⟩ := hn
      exact absurd hset (by rw [← Block.writeNextCompare, writeNextCompare_sts_getLsbD _ _ h1 h17, hclear]; decide)
    · exact absurd hclear (by rw [← Block.writeNextCompare, sts_kept_by_writeNextCompare hset]; decide)
  · exact ⟨fun hclear hset => .inl ⟨inp, rfl, mem_of_sts_set_by_tick hclear hset⟩,
      fun hset hclear => absurd (sts_kept_by_tick hset inp) (by simp [hclear])⟩
  · obtain ⟨w, hw⟩ := exists_clearWinner_eq_and s.sts
    exact ⟨fun hclear hset => absurd hset (by simp [hw, hclear]), fun _ _ => .inl rfl⟩
  · exact ⟨fun _ hset => absurd hset (by simp), fun _ _ => .inr (.inl rfl)⟩

/-! ### Mask bits -/

/-- Everything an instruction can do to `MASK`: nothing, or it is one of the three that write it (10_state.md R36). -/
theorem exec_mask_cases {i : Instr} {s t : State} (h : exec i s = .next t) :
    t.mask = s.mask ∨
    (∃ d, i = .wrIntrMask d ∧ t.mask = s.mask ||| (d &&& causeBits)) ∨
    (∃ d, i = .wrIntrUnmask d ∧ t.mask = s.mask &&& ~~~(d &&& causeBits)) ∨
    (i = .rst ∧ t.mask = causeBits) := by
  obtain ⟨-, hblock⟩ | ⟨r, d, rfl, hblock⟩ | ⟨inp, -, hblock⟩ | ⟨-, hblock⟩ | ⟨rfl, hblock⟩ := exec_next_cases h <;>
    rw [hblock]
  · exact .inl rfl
  · by_cases hsame : (s.afterWrite d r).mask = s.mask
    · exact .inl hsame
    · obtain rfl | rfl := (reachedByWrite_afterWrite s.toBlock d r).mask hsame
      · exact .inr (.inl ⟨d, rfl, rfl⟩)
      · exact .inr (.inr (.inl ⟨d, rfl, rfl⟩))
  · exact .inl (tick_mask _ _)
  · exact .inl rfl
  · exact .inr (.inr (.inr ⟨rfl, rfl⟩))

/-- A mask bit falls by a write of INTR_UNMASK alone, a cause bit of the mask being set by reset
(44_interrupt_regs.md R245). -/
theorem unmask_of_mask_falls {i : Instr} {s t : State} {n : Nat} (h : exec i s = .next t)
    (hcause : causeBits.getLsbD n = true) (hbefore : s.mask.getLsbD n = true) (hafter : t.mask.getLsbD n = false) :
    ∃ d, i = .wrIntrUnmask d := by
  obtain hmask | ⟨d, -, hmask⟩ | ⟨d, rfl, -⟩ | ⟨-, hmask⟩ := exec_mask_cases h
  · exact absurd hafter (by rw [hmask, hbefore]; decide)
  · exact absurd hafter (by rw [hmask, BitVec.getLsbD_or, hbefore, Bool.true_or]; decide)
  · exact ⟨d, rfl⟩
  · exact absurd hafter (by rw [hmask, hcause]; decide)

/-- A mask bit rises by a write of INTR_MASK or by reset (44_interrupt_regs.md R243). -/
theorem mask_or_reset_of_mask_rises {i : Instr} {s t : State} {n : Nat} (h : exec i s = .next t)
    (hbefore : s.mask.getLsbD n = false) (hafter : t.mask.getLsbD n = true) :
    i = .rst ∨ ∃ d, i = .wrIntrMask d := by
  obtain hmask | ⟨d, rfl, -⟩ | ⟨d, -, hmask⟩ | ⟨rfl, -⟩ := exec_mask_cases h
  · exact absurd hafter (by rw [hmask, hbefore]; decide)
  · exact .inr ⟨d, rfl⟩
  · exact absurd hafter (by rw [hmask, BitVec.getLsbD_and, hbefore, Bool.false_and]; decide)
  · exact .inl rfl

/-! ### The interrupt line -/

theorem ne_zero_iff_exists_getLsbD {w : Nat} (x : BitVec w) : x ≠ 0 ↔ ∃ n, x.getLsbD n = true := by
  constructor
  · intro hne
    by_contra hnone
    exact hne (BitVec.eq_of_getLsbD_eq fun n _ =>
      (Bool.eq_false_iff.mpr fun hn => hnone ⟨n, hn⟩).trans BitVec.getLsbD_zero.symm)
  · rintro ⟨n, hn⟩ rfl
    exact absurd hn (ne_true_of_eq_false BitVec.getLsbD_zero)

/-- The bit numbers of the eight causes (10_state.md R35). -/
theorem getLsbD_causeBits_iff (n : Nat) : causeBits.getLsbD n = true ↔ n ∈ [0, 1, 2, 3, 16, 17, 18, 19] := by
  have hall : ∀ m < 32, causeBits.getLsbD m = true ↔ m ∈ [0, 1, 2, 3, 16, 17, 18, 19] := by decide
  have hmem : ∀ m ∈ [0, 1, 2, 3, 16, 17, 18, 19], m < 32 := by decide
  exact ⟨fun h => (hall n (BitVec.lt_of_getLsbD h)).mp h, fun h => (hall n (hmem n h)).mpr h⟩

/-- `irq` is high while some cause bit is set and not masked (60_exceptions.md R357). -/
theorem irq_iff (b : Block) :
    irq b = true ↔ ∃ n, causeBits.getLsbD n = true ∧ b.sts.getLsbD n = true ∧ b.mask.getLsbD n = false := by
  rw [irq, bne_iff_ne, ne_zero_iff_exists_getLsbD]
  refine exists_congr fun n => ?_
  rw [BitVec.getLsbD_and, BitVec.getLsbD_and, BitVec.getLsbD_not, Bool.and_eq_true, Bool.and_eq_true, Bool.and_eq_true,
    Bool.not_eq_true', decide_eq_true_eq]
  constructor
  · rintro ⟨⟨hsts, -, hmask⟩, hcause⟩
    exact ⟨hcause, hsts, hmask⟩
  · rintro ⟨hcause, hsts, hmask⟩
    exact ⟨⟨hsts, BitVec.lt_of_getLsbD hsts, hmask⟩, hcause⟩

/-- Settles O45: the line moves on some cause bit, of which either the status or the mask has moved. -/
theorem interruptLine : Obligations.InterruptLine := by
  refine ⟨fun b => ?_, fun i s t h hlow hhigh => ?_, fun i s t h hhigh hlow => ?_⟩
  · simp only [irq_iff, getLsbD_causeBits_iff]
  · obtain ⟨n, hcause, hsts, hmask⟩ := (irq_iff _).mp hhigh
    cases hbefore : s.sts.getLsbD n with
    | false =>
      obtain ⟨hset, -⟩ := statusBitsChangedOnlyBy i s t n h
      obtain ⟨inp, hi, -⟩ | ⟨d, hi, -⟩ := hset hbefore hsts
      · exact .inl ⟨inp, hi⟩
      · exact .inr (.inl ⟨d, hi⟩)
    | true =>
      have hmasked : s.mask.getLsbD n = true := by
        by_contra hopen
        exact absurd hlow (by rw [(irq_iff _).mpr ⟨n, hcause, hbefore, Bool.not_eq_true _ ▸ hopen⟩]; decide)
      exact .inr (.inr (unmask_of_mask_falls h hcause hmasked hmask))
  · obtain ⟨n, hcause, hsts, hmask⟩ := (irq_iff _).mp hhigh
    cases hafter : t.sts.getLsbD n with
    | false =>
      obtain ⟨-, hclear⟩ := statusBitsChangedOnlyBy i s t n h
      obtain hi | hi | ⟨d, hi, -⟩ := hclear hsts hafter
      · exact .inl hi
      · exact .inr (.inl hi)
      · exact .inr (.inr (.inl ⟨d, hi⟩))
    | true =>
      have hmasked : t.mask.getLsbD n = true := by
        by_contra hopen
        exact absurd hlow (by rw [(irq_iff _).mpr ⟨n, hcause, hafter, Bool.not_eq_true _ ▸ hopen⟩]; decide)
      obtain hi | hi := mask_or_reset_of_mask_rises h hmask hmasked
      · exact .inr (.inl hi)
      · exact .inr (.inr (.inr hi))

end Sys2Proof.Machine
end

section
/-! SUPPORT. The step over the oldest issued word: an instruction, a bus error or an illegal word (30_encoding.md R118,
R119; 60_exceptions.md R350 to R353, R371). -/

namespace Sys2Proof.Machine

open Sys2Proof.Claims

/-! ### The step of a decoded word -/

/-- A step delivers what the oldest issued word decodes to (20_memory.md R95). -/
theorem stepWith_of_issued {p : Params} {s : State} {w : CommandWord} {rest : List CommandWord}
    (h : s.issued = w :: rest) : stepWith p s = deliver p (decodeWith p.regMap w) { s with issued := rest } := by
  rw [stepWith, takeIssued_some.mpr ⟨rest, h, rfl⟩]

theorem stepWith_of_decode {p : Params} {s : State} {w : CommandWord} {rest : List CommandWord} {i : Instr}
    (h : s.issued = w :: rest) (hi : decodeWith p.regMap w = .instr i) :
    stepWith p s = deliverInstr p i { s with issued := rest } := by
  rw [stepWith_of_issued h, hi, deliver]

/-- A gated clock supplies no tick (60_exceptions.md R371). -/
theorem deliverInstr_tick_clockOff {p : Params} {s : State} (h : s.clockOn = false) (inp : BitVec 4) :
    deliverInstr p (.tick inp) s = .next s := by
  simp [deliverInstr, Instr.toOp, h]

/-- An access through a gated clock that `BUS_WHEN_GATED` does not let through is refused (60_exceptions.md R371). -/
theorem deliverInstr_gatedAccess {p : Params} {i : Instr} {s : State} (hclock : s.clockOn = false)
    (hbus : p.busWhenGated = false) (hi : (∃ r, i.toOp = .rd r) ∨ ∃ r d, i.toOp = .wr r d) :
    deliverInstr p i s = .refused .gatedAccess := by
  obtain ⟨r, hop⟩ | ⟨r, d, hop⟩ := hi <;> simp [deliverInstr, hop, viaBus, accessSucceeds, hclock, hbus]

/-- A table word that spells an instruction is that instruction's command word (30_encoding.md R111). -/
theorem decode_tableWord {n w : Nat} {i : Instr} (h : decodeTableWord n w = some i) :
    decode (tableWord n w) = .instr i := by
  simp only [decodeTableWord] at h
  split at h
  · rw [tableWord]
    split at h
    next j hj => rw [hj, Option.some.inj h]
    next => cases h
    next => cases h
  · cases h

/-- Settles O36: the step is the delivery of the decoded instruction, by the clock and the kind of operation. -/
theorem stepRunsIssued : Obligations.StepRunsIssued := by
  refine ⟨fun p s w rest i hissued hi => ?_, fun s => rfl, fun s n w i hw => ?_, fun p s hissued => ?_,
    fun i s t h => ?_⟩
  · dsimp only
    rw [stepWith_of_decode hissued hi]
    refine ⟨?_, ?_, fun hclock hbus haccess => deliverInstr_gatedAccess hclock hbus haccess⟩
    · rintro (hclock | rfl | rfl | ⟨hbus, htick⟩)
      · exact deliverInstr_clockOn hclock
      · rfl
      · rfl
      · exact deliverInstr_busWhenGated hbus htick
    · rintro hclock ⟨inp, rfl⟩
      exact deliverInstr_tick_clockOff (s := { s with issued := rest }) hclock inp
  · have hdecode : decodeWith Params.default.regMap (tableWord n w) = .instr i := decode_tableWord hw
    exact (stepWith_of_decode (withFetchWord_issued s n w) hdecode).trans (deliverInstr_clockOn rfl)
  · rw [stepWith, takeIssued_none.mpr hissued]
  · obtain ⟨hissued, hclock, -⟩ := exec_next_frame h
    exact ⟨hissued, hclock⟩

/-! ### Bus errors -/

/-- The word of an access is decoded as that access (30_encoding.md R111). -/
theorem decode_access (off : Offset) (d : Word) (dir : Dir) :
    ∃ d', decode (access off d dir) = decodeAccess defaultRegMap dir off d' := by
  cases dir with
  | read => exact ⟨0, by simp [decode, decodeWith, access]⟩
  | write => exact ⟨d, by simp [decode, decodeWith, access]⟩

/-- Alignment as a number (60_exceptions.md R351). -/
theorem aligned_iff (off : Offset) : off.extractLsb' 0 2 = 0 ↔ off.toNat % 4 = 0 := by
  rw [← BitVec.toNat_inj, BitVec.extractLsb'_toNat, Nat.shiftRight_zero]
  rfl

/-- Of the forty aligned offsets below 0x0A0 all but 0x03C hold a register (30_encoding.md R113, R114). -/
theorem regAt_default_eq_none_iff {off : Offset} (haligned : off.toNat % 4 = 0) :
    regAt defaultRegMap off = none ↔ off = 0x03C ∨ 0x0A0 ≤ off.toNat := by
  constructor
  · intro hnone
    by_contra hin
    rw [not_or, Nat.not_le] at hin
    obtain ⟨hgap, hlt⟩ := hin
    have hall : ∀ k < 40, BitVec.ofNat 12 (4 * k) ≠ 0x03C → regAt defaultRegMap (.ofNat 12 (4 * k)) ≠ none := by decide
    have hoff : off = BitVec.ofNat 12 (4 * (off.toNat / 4)) := by
      rw [Nat.mul_div_cancel' (Nat.dvd_of_mod_eq_zero haligned), BitVec.ofNat_toNat, BitVec.setWidth_eq]
    exact hall (off.toNat / 4) (by omega) (hoff ▸ hgap) (hoff ▸ hnone)
  · intro hout
    have hall : ∀ r ∈ Reg.all, defaultRegMap r ≠ 0x03C ∧ (defaultRegMap r).toNat < 0x0A0 := by decide
    refine List.find?_eq_none.mpr fun r hr heq => ?_
    obtain ⟨hgap, hlt⟩ := hall r hr
    rw [eq_of_beq heq] at hgap hlt
    exact hout.elim hgap (Nat.not_le.mpr hlt)

/-- An access to no register answers its agent with the error response and leaves the block
(60_exceptions.md R350, R353). -/
theorem step_of_noRegister {s : State} {w : CommandWord} {kind : BusErrorKind} {dir : Dir} {off : Offset}
    (h : decode w = .noRegister kind dir off) (rest : List CommandWord) :
    step { s with issued := w :: rest } = .next { s with issued := rest, resp := .busError kind dir off } := by
  have hword : decodeWith Params.default.regMap w = .noRegister kind dir off := h
  rw [step, stepWith_of_issued rfl, hword, deliver, viaBus, accessSucceeds, Params.default, Bool.or_true, if_pos rfl]
  rfl

/-- Settles O37: by alignment, and then by whether the map has a register there. -/
theorem busErrors : Obligations.BusErrors := by
  refine ⟨fun s dir off d rest => ?_, fun i s t kind dir off h => ?_, rfl, rfl⟩
  · obtain ⟨d', hdecode⟩ := decode_access off d dir
    rw [decodeAccess] at hdecode
    dsimp only
    split_ifs with halign hunmapped
    · rw [if_pos (mt (aligned_iff off).mp halign)] at hdecode
      exact step_of_noRegister hdecode rest
    · rw [not_not] at halign
      rw [if_neg (not_not.mpr ((aligned_iff off).mpr halign)), (regAt_default_eq_none_iff halign).mpr hunmapped]
        at hdecode
      exact step_of_noRegister hdecode rest
    · rw [not_not] at halign
      rw [if_neg (not_not.mpr ((aligned_iff off).mpr halign))] at hdecode
      obtain ⟨r, hr⟩ := Option.ne_none_iff_exists'.mp (mt (regAt_default_eq_none_iff halign).mp hunmapped)
      rw [hr] at hdecode
      cases dir
      · exact ⟨_, hdecode⟩
      · exact ⟨_, hdecode⟩
  · obtain ⟨-, -, hresp⟩ := exec_next_frame h
    exact hresp kind dir off

/-! ### Illegal words -/

theorem toNat_kind (w : CommandWord) : w.kind.toNat = w.toNat / 2 ^ 44 := by
  have hlt := w.isLt
  rw [CommandWord.kind, BitVec.extractLsb'_toNat, Nat.shiftRight_eq_div_pow]
  omega

theorem toNat_off (w : CommandWord) : w.off.toNat = w.toNat / 2 ^ 32 % 2 ^ 12 := by
  rw [CommandWord.off, BitVec.extractLsb'_toNat, Nat.shiftRight_eq_div_pow]

theorem toNat_data (w : CommandWord) : w.data.toNat = w.toNat % 2 ^ 32 := by
  rw [CommandWord.data, BitVec.extractLsb'_toNat, Nat.shiftRight_zero]

/-- The upper 28 bits of a data word are 0 when its number is below 16 (30_encoding.md R118). -/
theorem high_eq_zero_iff (d : Word) : d.extractLsb' 4 28 = 0 ↔ d.toNat < 16 := by
  have hlt := d.isLt
  have hzero : (0 : BitVec 28).toNat = 0 := rfl
  rw [← BitVec.toNat_inj, BitVec.extractLsb'_toNat, Nat.shiftRight_eq_div_pow, hzero]
  omega

/-- A register access is never illegal (30_encoding.md R119). -/
theorem decodeAccess_ne_illegal (m : RegMap) (dir : Dir) (off : Offset) (d : Word) (why : IllegalWord) :
    decodeAccess m dir off d ≠ .illegal why := by
  unfold decodeAccess
  split_ifs
  · simp
  · cases regAt m off with
    | none => simp
    | some r => cases dir <;> simp

/-- The words of R118, by their fields as numbers (30_encoding.md R118). -/
def Unspelled (kind off data : Nat) : Prop :=
  5 ≤ kind ∨ (kind = 0 ∧ data ≠ 0) ∨ (kind = 2 ∧ (off ≠ 0 ∨ 16 ≤ data)) ∨
    ((kind = 3 ∨ kind = 4) ∧ (off ≠ 0 ∨ data ≠ 0))

/-- The decoder answers illegal for exactly the words of R118 (30_encoding.md R118). -/
theorem exists_illegal_iff (m : RegMap) (w : CommandWord) :
    (∃ why, decodeWith m w = .illegal why) ↔ Unspelled w.kind.toNat w.off.toNat w.data.toNat := by
  simp only [decodeWith, high_eq_zero_iff]
  simp only [← BitVec.toNat_inj, BitVec.ofNat_eq_ofNat, BitVec.toNat_ofNat]
  unfold Unspelled
  split_ifs <;> simp [decodeAccess_ne_illegal] <;> omega

/-- Settles O38: an illegal word is refused at the decoder, by its reason. -/
theorem illegalWordsExactly : Obligations.IllegalWordsExactly := by
  intro s w rest
  have hiff := exists_illegal_iff defaultRegMap w
  rw [toNat_kind, toNat_off, toNat_data] at hiff
  dsimp only
  split_ifs with hillegal
  · obtain ⟨why, hwhy⟩ := hiff.mpr hillegal
    have hword : decodeWith Params.default.regMap w = .illegal why := hwhy
    exact ⟨why, hwhy, by rw [step, stepWith_of_issued rfl, hword, deliver]⟩
  · exact fun why hwhy => hillegal (hiff.mp ⟨why, hwhy⟩)

end Sys2Proof.Machine
end

section
/-! SUPPORT. The driver's calls for the match value and the counts in 16-bit mode (30_encoding.md R135 to R137). -/

namespace Sys2Proof.Machine

open Sys2Proof.Claims

theorem fits_of_le {v : Word} (h : v.toNat ≤ 65535) : Fits false v :=
  (fits_iff false v).mpr (BitVec.le_def.mpr h)

/-- Two counts packed into one word are its two slices (30_encoding.md R136). -/
theorem slice_packed {v0 v1 : Word} (h0 : v0.toNat ≤ 65535) (h1 : v1.toNat ≤ 65535) (c : Channel) :
    slice false (v0 ||| v1 <<< 16) c = if c = .c0 then v0 else v1 := by
  have hsum : (v0 ||| v1 <<< 16).toNat = v1.toNat * 65536 + v0.toNat := by
    rw [BitVec.or_comm, BitVec.toNat_or, BitVec.toNat_shiftLeft,
      Nat.mod_eq_of_lt (by rw [Nat.shiftLeft_eq]; omega),
      ← Nat.shiftLeft_add_eq_or_of_lt (show v0.toNat < 2 ^ 16 by omega), Nat.shiftLeft_eq]
  apply BitVec.eq_of_toNat_eq
  rw [← part_eq_toNat_slice, part, hsum]
  cases c <;> simp [idx] <;> omega

/-- `set_match_count` stores a value that fits its counter in the counter's half of MATCH (30_encoding.md R135). -/
theorem run_setMatchCount {v : Word} (h : v.toNat ≤ 65535) (c : Channel) (s : State) :
    ∃ t, (setMatchCount .bits16 c v).run s = some (.ok, t) ∧ t.matchReg = putSlice false s.matchReg c v := by
  rw [setMatchCount, if_neg (Nat.not_lt.mpr h), run_rd rfl, run_wr rfl]
  exact ⟨_, rfl, rfl⟩

/-- `set_initial_count` stores two counts that fit side by side (30_encoding.md R136). -/
theorem run_setInitialCount {v0 v1 : Word} (h0 : v0.toNat ≤ 65535) (h1 : v1.toNat ≤ 65535) (s : State) :
    ∃ t, (setInitialCount .bits16 v0 v1).run s = some (.ok, t) ∧ t.counter = v0 ||| v1 <<< 16 := by
  rw [setInitialCount, if_neg (not_or.mpr ⟨Nat.not_lt.mpr h0, Nat.not_lt.mpr h1⟩), run_wr rfl]
  exact ⟨_, rfl, rfl⟩

/-- `get_count` returns the counter's half of COUNTER (30_encoding.md R137). -/
theorem run_getCount (c : Channel) (s : State) :
    (getCount .bits16 c).run s = some (slice false s.counter c, s.answer (.data s.counter)) := by
  rw [getCount, run_rd rfl]
  rfl

/-- Settles O60: the match value is the slice just stored, and the count the slice of the packed word. -/
theorem countRoundTrip : Obligations.CountRoundTrip := by
  intro s c v other
  refine ⟨fun hv hother => ?_, fun hlarge => ?_⟩
  · obtain ⟨t, hmatch, hreg⟩ := run_setMatchCount hv c s
    obtain ⟨u, hinitial, hcounter⟩ := run_setInitialCount
      (v0 := if c = .c0 then v else other) (v1 := if c = .c0 then other else v)
      (by split_ifs <;> assumption) (by split_ifs <;> assumption) t
    refine ⟨t, u, u.answer (.data u.counter), hmatch, ?_, hinitial, (run_getCount c u).trans ?_⟩
    · rw [hreg, part_eq_toNat_slice, slice_putSlice_fits (fits_of_le hv)]
    · rw [hcounter, slice_packed (by split_ifs <;> assumption) (by split_ifs <;> assumption)]
      cases c <;> rfl
  · rw [setMatchCount, if_pos hlarge]
    rfl

end Sys2Proof.Machine
end

section
/-! SUPPORT. What a free-running counter holds after any number of ticks: the periods of the three directions, the end of
a one-shot count and edge-aligned PWM (46_tick_counting.md R294 to R301, 47_tick_output.md R330). -/

namespace Sys2Proof.Machine

open Sys2Proof.Claims

/-! ### Any number of ticks -/

/-- What holds of a block after `n` ticks, where it makes the next tick allowed and each tick keeps it, holds after a
run of ticks with any samples. -/
theorem runTicks_of_invariant {P : Nat → Block → Prop} (hallowed : ∀ n b, P n b → Allowed b)
    (htick : ∀ n b inp, P n b → P (n + 1) (b.tick inp)) (ins : List (BitVec 4)) {s : State} (h : P 0 s.toBlock) :
    ∃ t, runTicks ins s = some t ∧ P ins.length t.toBlock := by
  suffices hfrom : ∀ n s, P n s.toBlock → ∃ t, runTicks ins s = some t ∧ P (n + ins.length) t.toBlock by
    simpa using hfrom 0 s h
  clear h s
  induction ins with
  | nil => exact fun n s h => ⟨s, rfl, h⟩
  | cons inp ins ih =>
    intro n s h
    obtain ⟨t, hrun, ht⟩ := ih (n + 1) (s.afterTick inp) (htick n s.toBlock inp h)
    refine ⟨t, (runTicks_cons_of_allowed (hallowed n _ h) inp ins).trans hrun, ?_⟩
    rwa [List.length_cons, Nat.add_comm ins.length, ← Nat.add_assoc]

/-! ### A counter that still runs -/

/-- Channel `c` of `b` runs freely under the configuration of `b₀`. -/
structure StillRuns (b₀ : Block) (c : Channel) (b : Block) : Prop where
  freeRunning : FreeRunning b c
  level : b.level = b₀.level
  matchReg : b.matchReg = b₀.matchReg
  ocuCtrl : b.ocuCtrl = b₀.ocuCtrl
  wfgCtrl : b.wfgCtrl = b₀.wfgCtrl

namespace StillRuns

theorem refl {b : Block} {c : Channel} (h : FreeRunning b c) : StillRuns b c b := ⟨h, rfl, rfl, rfl, rfl⟩

variable {b₀ b : Block} {c : Channel} (h : StillRuns b₀ c b)
include h

theorem allowed : Allowed b := by
  obtain ⟨⟨⟨hallowed, -⟩, -⟩, -⟩ := h
  exact hallowed

theorem active : isActive b c = true := by
  obtain ⟨⟨⟨-, hactive, -⟩, -⟩, -⟩ := h
  exact hactive

theorem running : (b.chan c).run = true := by
  obtain ⟨⟨-, hrun, -⟩, -⟩ := h
  exact hrun

theorem notHalted : (b.chan c).halt = false := by
  obtain ⟨⟨-, -, hhalt⟩, -⟩ := h
  exact hhalt

theorem mode_eq : mode b = mode b₀ := by rw [mode, h.level, mode]

theorem mat_eq : mat b c = mat b₀ c := by rw [mat, h.mode_eq, h.matchReg, mat]

theorem dir_eq : dir b c = dir b₀ c := by rw [dir, h.level, dir]

theorem per_eq : per b c = per b₀ c := by rw [per, h.level, per]

theorem counts (inp : BitVec 4) : counting b inp c = true := counting_of_freeRunning h.freeRunning inp

/-- A tick that ends no one-shot period leaves the counter running (46_tick_counting.md R301, R306). -/
theorem tick {inp : BitVec 4} (hend : (boundary b inp c && !per b c) = false) : StillRuns b₀ c (b.tick inp) where
  freeRunning := freeRunning_tick h.freeRunning inp hend
  level := (tick_level b inp).trans h.level
  matchReg := (tick_matchReg b inp).trans h.matchReg
  ocuCtrl := (tick_ocuCtrl b inp).trans h.ocuCtrl
  wfgCtrl := (tick_wfgCtrl b inp).trans h.wfgCtrl

/-- A periodic counter never stops of itself (46_tick_counting.md R301). -/
theorem tick_of_periodic (hper : per b₀ c = true) (inp : BitVec 4) : StillRuns b₀ c (b.tick inp) :=
  h.tick (by rw [h.per_eq, hper, Bool.not_true, Bool.and_false])

theorem mat_le_maxOf : mat b₀ c ≤ maxOf (mode b) := by
  rw [← h.mat_eq, mat_eq_toNat_matchValue]
  exact toNat_le_maxOf_of_fits (fits_slice _ _ _)

/-- An up-counter at or below its match value reloads 0 there and counts up elsewhere (46_tick_counting.md R294). -/
theorem cnt_tick_of_up (hdir : dir b₀ c = 0 ∨ dir b₀ c = 1) (hle : cnt b c ≤ mat b₀ c) (inp : BitVec 4) :
    cnt (b.tick inp) c = if cnt b c = mat b₀ c then 0 else cnt b c + 1 := by
  have hmax := h.mat_le_maxOf
  have hdir' := h.dir_eq
  rw [cnt_tick_up h.active (h.counts inp) (by omega) (by omega), h.mat_eq]
  split_ifs <;> omega

/-- An up-counter ends a period on the tick that observes its match value (46_tick_counting.md R300). -/
theorem boundary_of_up (hdir : dir b₀ c = 0 ∨ dir b₀ c = 1) (inp : BitVec 4) :
    boundary b inp c = (cnt b c == mat b₀ c) := by
  have hdir' := h.dir_eq
  rw [boundary, h.counts, if_neg (by omega), if_neg (by omega), h.mat_eq, Bool.true_and]

end StillRuns

/-! ### Steps modulo a period -/

theorem add_one_mod_eq {m : Nat} (hm : 0 < m) (a : Nat) :
    (a + 1) % m = if a % m + 1 = m then 0 else a % m + 1 := by
  have hlt := Nat.mod_lt a hm
  rw [← Nat.mod_add_mod]
  split_ifs with hlast
  · rw [hlast, Nat.mod_self]
  · exact Nat.mod_eq_of_lt (by omega)

/-- A step down is `m` steps up modulo `m + 1`. -/
theorem add_mod_succ_eq (a m : Nat) :
    (a + m) % (m + 1) = if a % (m + 1) = 0 then m else a % (m + 1) - 1 := by
  have hlt := Nat.mod_lt a m.add_one_pos
  rw [← Nat.mod_add_mod]
  split_ifs with hzero
  · rw [hzero, Nat.zero_add]
    exact Nat.mod_eq_of_lt (by omega)
  · rw [show a % (m + 1) + m = (a % (m + 1) - 1) + (m + 1) by omega, Nat.add_mod_right]
    exact Nat.mod_eq_of_lt (by omega)

/-! ### Up and down -/

/-- The count of the periodic up-counter after `n` ticks (46_tick_counting.md R294). -/
theorem upCounter_tick {b₀ b : Block} {c : Channel} (hper : per b₀ c = true) (hdir : dir b₀ c = 0 ∨ dir b₀ c = 1)
    {k n : Nat} (h : StillRuns b₀ c b ∧ cnt b c = (k + n) % (mat b₀ c + 1)) (inp : BitVec 4) :
    StillRuns b₀ c (b.tick inp) ∧ cnt (b.tick inp) c = (k + (n + 1)) % (mat b₀ c + 1) := by
  obtain ⟨hruns, hcnt⟩ := h
  have hlt := Nat.mod_lt (k + n) (mat b₀ c).add_one_pos
  refine ⟨hruns.tick_of_periodic hper inp, ?_⟩
  rw [hruns.cnt_tick_of_up hdir (by omega), hcnt, ← Nat.add_assoc, add_one_mod_eq (Nat.add_one_pos _)]
  simp only [Nat.add_right_cancel_iff]

/-- Settles O52: a counting tick is one step modulo the period. -/
theorem upCounterPeriod : Obligations.UpCounterPeriod := by
  intro ins s c hfree hper hdir hle
  obtain ⟨t, hrun, hruns, hcnt⟩ := runTicks_of_invariant
    (P := fun n b => StillRuns s.toBlock c b ∧ cnt b c = (cnt s.toBlock c + n) % (mat s.toBlock c + 1))
    (fun _ _ h => h.1.allowed) (fun _ _ inp h => upCounter_tick hper hdir h inp) ins
    ⟨StillRuns.refl hfree, (Nat.mod_eq_of_lt (Nat.lt_succ_of_le hle)).symm⟩
  exact ⟨t, hrun, hruns.running, hcnt⟩

/-- The count of the periodic down-counter after `n` ticks (46_tick_counting.md R296). -/
theorem downCounter_tick {b₀ b : Block} {c : Channel} (hper : per b₀ c = true) (hdir : dir b₀ c = 2) {k n : Nat}
    (h : StillRuns b₀ c b ∧ cnt b c = (k + n * mat b₀ c) % (mat b₀ c + 1)) (inp : BitVec 4) :
    StillRuns b₀ c (b.tick inp) ∧ cnt (b.tick inp) c = (k + (n + 1) * mat b₀ c) % (mat b₀ c + 1) := by
  obtain ⟨hruns, hcnt⟩ := h
  refine ⟨hruns.tick_of_periodic hper inp, ?_⟩
  rw [cnt_tick_down hruns.active (hruns.counts inp) (hruns.dir_eq.trans hdir), hruns.mat_eq, hcnt, Nat.succ_mul,
    ← Nat.add_assoc, add_mod_succ_eq]

/-- Settles O53: a counting tick is one step down modulo the period. -/
theorem downCounterPeriod : Obligations.DownCounterPeriod := by
  intro ins s c hfree hper hdir hle
  obtain ⟨t, hrun, hruns, hcnt⟩ := runTicks_of_invariant
    (P := fun n b => StillRuns s.toBlock c b ∧
      cnt b c = (cnt s.toBlock c + n * mat s.toBlock c) % (mat s.toBlock c + 1))
    (fun _ _ h => h.1.allowed) (fun _ _ inp h => downCounter_tick hper hdir h inp) ins
    ⟨StillRuns.refl hfree, by rw [Nat.zero_mul, Nat.add_zero, Nat.mod_eq_of_lt (Nat.lt_succ_of_le hle)]⟩
  exact ⟨t, hrun, hruns.running, hcnt⟩

/-! ### The triangle -/

/-- The up-down counter at position `p` of its period `2 * mat`: on the way up to the match value it ascends, on the way
down it descends, and at 0 it may do either, ascending after the start and descending after a period
(46_tick_counting.md R297, R298). -/
structure OnTriangle (b₀ : Block) (c : Channel) (p : Nat) (b : Block) : Prop where
  runs : StillRuns b₀ c b
  cnt_eq : cnt b c = if p ≤ mat b₀ c then p else 2 * mat b₀ c - p
  ascends : (b.chan c).phase = false → p ≤ mat b₀ c
  descends : (b.chan c).phase = true → p = 0 ∨ mat b₀ c < p

namespace OnTriangle

variable {b₀ b : Block} {c : Channel} {p : Nat} (h : OnTriangle b₀ c p b)
include h

/-- The phase after a tick of a free-running up-down counter: it turns at the match value and at 0
(46_tick_counting.md R297, R298, R306). -/
theorem phase_tick (hdir : dir b₀ c = 3) (inp : BitVec 4) :
    ((b.tick inp).chan c).phase = if (b.chan c).phase then cnt b c != 0 else cnt b c == mat b₀ c := by
  obtain ⟨hundisturbed, -⟩ := h.runs.freeRunning
  rw [tick_phase h.runs.active, start_of_undisturbed hundisturbed, stop_of_undisturbed hundisturbed, nphase,
    if_pos (h.runs.counts inp), if_pos (h.runs.dir_eq.trans hdir), h.runs.mat_eq]
  rfl

/-- A tick moves the counter one position on (46_tick_counting.md R297, R298). -/
theorem tick (hper : per b₀ c = true) (hdir : dir b₀ c = 3) (hmat : mat b₀ c ≠ 0) (hp : p < 2 * mat b₀ c)
    (inp : BitVec 4) : OnTriangle b₀ c (if p + 1 = 2 * mat b₀ c then 0 else p + 1) (b.tick inp) := by
  have hdir' := h.runs.dir_eq.trans hdir
  have hphase' := h.phase_tick hdir inp
  cases hphase : (b.chan c).phase with
  | false =>
    have hle := h.ascends hphase
    have hcnt : cnt b c = p := h.cnt_eq.trans (if_pos hle)
    have hmax := h.runs.mat_le_maxOf
    rw [hphase, hcnt] at hphase'
    refine ⟨h.runs.tick_of_periodic hper inp, ?_, fun hup => ?_, fun hdown => ?_⟩
    · rw [cnt_tick_ascending h.runs.active (h.runs.counts inp) hdir' hphase, hcnt, h.runs.mat_eq]
      split_ifs <;> omega
    · have hne : p ≠ mat b₀ c := beq_eq_false_iff_ne.mp (hphase'.symm.trans hup)
      split_ifs <;> omega
    · have heq : p = mat b₀ c := beq_iff_eq.mp (hphase'.symm.trans hdown)
      split_ifs <;> omega
  | true =>
    rw [hphase, if_pos rfl] at hphase'
    have hstep := cnt_tick_descending h.runs.active (h.runs.counts inp) hdir' hphase
    rw [h.runs.mat_eq, h.runs.per_eq, if_pos (show per b₀ c = true ∧ mat b₀ c ≠ 0 from ⟨hper, hmat⟩)] at hstep
    obtain rfl | hbeyond := h.descends hphase
    · have hcnt : cnt b c = 0 := h.cnt_eq.trans (if_pos (Nat.zero_le _))
      rw [hcnt] at hphase' hstep
      refine ⟨h.runs.tick_of_periodic hper inp, ?_, fun _ => ?_, fun hdown => ?_⟩
      · rw [hstep]
        split_ifs <;> omega
      · split_ifs <;> omega
      · exact absurd (hphase'.symm.trans hdown) (by decide)
    · have hcnt : cnt b c = 2 * mat b₀ c - p := h.cnt_eq.trans (if_neg (by omega))
      rw [hcnt] at hphase' hstep
      refine ⟨h.runs.tick_of_periodic hper inp, ?_, fun hup => ?_, fun _ => ?_⟩
      · rw [hstep]
        split_ifs <;> omega
      · have hzero : 2 * mat b₀ c - p = 0 := bne_eq_false_iff_eq.mp (hphase'.symm.trans hup)
        omega
      · split_ifs <;> omega

end OnTriangle

/-- Settles O54: a tick moves the counter one position along the triangle. -/
theorem upDownCounterTriangle : Obligations.UpDownCounterTriangle := by
  intro ins s c hfree hper hdir hphase hcnt hmat
  have hperiod : 0 < 2 * mat s.toBlock c := by omega
  have hstart : OnTriangle s.toBlock c 0 s.toBlock :=
    ⟨StillRuns.refl hfree, hcnt, fun _ => Nat.zero_le _, fun _ => .inl rfl⟩
  obtain ⟨t, hrun, h⟩ := runTicks_of_invariant
    (P := fun n b => OnTriangle s.toBlock c (n % (2 * mat s.toBlock c)) b) (fun _ _ h => h.runs.allowed)
    (fun n _ inp h => add_one_mod_eq hperiod n ▸ h.tick hper hdir hmat (Nat.mod_lt _ hperiod) inp) ins
    (by rwa [Nat.zero_mod])
  exact ⟨t, hrun, h.runs.running, h.cnt_eq⟩

/-! ### One-shot -/

/-- The counter has ended its one-shot period: stopped, not halted and at 0 (46_tick_counting.md R301). -/
structure Ended (c : Channel) (b : Block) : Prop where
  undisturbed : Undisturbed b c
  stopped : (b.chan c).run = false
  notHalted : (b.chan c).halt = false
  cnt_eq : cnt b c = 0

/-- Nothing starts an undisturbed counter that has ended (46_tick_counting.md R306). -/
theorem Ended.tick {b : Block} {c : Channel} (h : Ended c b) (inp : BitVec 4) : Ended c (b.tick inp) := by
  have ⟨_, hactive, _⟩ := h.undisturbed
  have hidle : counting b inp c = false := by rw [counting, h.stopped]; rfl
  have hrun : ((b.tick inp).chan c).run = false := by
    rw [tick_run hactive, stop_of_undisturbed h.undisturbed, start_of_undisturbed h.undisturbed, h.stopped]
    simp
  refine ⟨undisturbed_tick h.undisturbed inp, hrun, ?_, ?_⟩
  · rw [tick_halt hactive, hrun]
    rfl
  · rw [cnt_tick_of_not_counting hactive hidle, h.cnt_eq]

/-- The one-shot up-counter after `n` ticks, started from `k`: it climbs to its match value and then ends
(46_tick_counting.md R294, R301). -/
def OneShot (b₀ : Block) (c : Channel) (n : Nat) (b : Block) : Prop :=
  if n ≤ mat b₀ c - cnt b₀ c then StillRuns b₀ c b ∧ cnt b c = cnt b₀ c + n else Ended c b

/-- The tick that observes the match value ends the period (46_tick_counting.md R301). -/
theorem ended_tick_of_match {b₀ b : Block} {c : Channel} (h : StillRuns b₀ c b) (hper : per b₀ c = false)
    (hdir : dir b₀ c = 0 ∨ dir b₀ c = 1) (hmatch : cnt b c = mat b₀ c) (inp : BitVec 4) : Ended c (b.tick inp) := by
  obtain ⟨hundisturbed, -⟩ := h.freeRunning
  have hend : (boundary b inp c && !per b c) = true := by
    rw [h.boundary_of_up hdir, h.per_eq, hper, hmatch, beq_self_eq_true]
    rfl
  have hrun : ((b.tick inp).chan c).run = false := by
    rw [tick_run h.active, stop_of_undisturbed hundisturbed, start_of_undisturbed hundisturbed, hend]
    rfl
  refine ⟨undisturbed_tick hundisturbed inp, hrun, ?_, ?_⟩
  · rw [tick_halt h.active, hrun]
    rfl
  · rw [h.cnt_tick_of_up hdir hmatch.le, if_pos hmatch]

/-- A tick takes the one-shot counter on: one count further, or to its end, or nowhere (46_tick_counting.md R294,
R301). -/
theorem oneShot_tick {b₀ b : Block} {c : Channel} (hper : per b₀ c = false) (hdir : dir b₀ c = 0 ∨ dir b₀ c = 1)
    (hle : cnt b₀ c ≤ mat b₀ c) {n : Nat} (h : OneShot b₀ c n b) (inp : BitVec 4) :
    OneShot b₀ c (n + 1) (b.tick inp) := by
  unfold OneShot at *
  by_cases hn : n ≤ mat b₀ c - cnt b₀ c
  · rw [if_pos hn] at h
    obtain ⟨hruns, hcnt⟩ := h
    by_cases hmatch : cnt b c = mat b₀ c
    · rw [if_neg (by omega)]
      exact ended_tick_of_match hruns hper hdir hmatch inp
    · have hend : (boundary b inp c && !per b c) = false := by
        rw [hruns.boundary_of_up hdir, beq_eq_false_iff_ne.mpr hmatch, Bool.false_and]
      rw [if_pos (by omega)]
      exact ⟨hruns.tick hend, by rw [hruns.cnt_tick_of_up hdir (by omega), if_neg hmatch, hcnt, Nat.add_assoc]⟩
  · rw [if_neg hn] at h
    rw [if_neg (by omega)]
    exact h.tick inp

theorem allowed_of_oneShot {b₀ b : Block} {c : Channel} {n : Nat} (h : OneShot b₀ c n b) : Allowed b := by
  unfold OneShot at h
  split_ifs at h
  · exact h.1.allowed
  · obtain ⟨hallowed, -⟩ := h.undisturbed
    exact hallowed

/-- Settles O56: the counter climbs, ends on the tick that observes its match value, and stays ended. -/
theorem oneShotEnds : Obligations.OneShotEnds := by
  intro ins s c hfree hper hdir hle
  have hstart : OneShot s.toBlock c 0 s.toBlock := by
    rw [OneShot, if_pos (Nat.zero_le _)]
    exact ⟨StillRuns.refl hfree, rfl⟩
  obtain ⟨t, hrun, h⟩ := runTicks_of_invariant (P := OneShot s.toBlock c) (fun _ _ h => allowed_of_oneShot h)
    (fun _ _ inp h => oneShot_tick hper hdir hle h inp) ins hstart
  unfold OneShot at h
  refine ⟨t, hrun, ?_, ?_⟩
  · split_ifs at h
    · exact h.1.notHalted
    · exact h.notHalted
  · split_ifs at h ⊢
    · exact ⟨h.1.running, h.2⟩
    · exact ⟨h.stopped, h.cnt_eq⟩

/-! ### Edge-aligned PWM -/

/-- The output is configured for edge-aligned PWM: the OCU drives it, full-width compare, high at the boundary, low on
match, no buffering (47_tick_output.md R330). -/
structure PwmConfig (b : Block) (c : Channel) : Prop where
  unbuffered : bit b.level 7 c = false
  driven : bit b.ocuCtrl 0 c = true
  fullWidth : bit b.ocuCtrl 5 c = false
  highAtBoundary : bit b.ocuCtrl 6 c = true
  notLowAtBoundary : bit b.ocuCtrl 9 c = false
  lowOnMatch : field b.wfgCtrl 0 2 c = 2

/-- The configuration is that of registers no tick writes. -/
theorem PwmConfig.of_stillRuns {b₀ b : Block} {c : Channel} (h : PwmConfig b₀ c) (hruns : StillRuns b₀ c b) :
    PwmConfig b c := by
  obtain ⟨h7, h0, h5, h6, h9, hfield⟩ := h
  rw [← hruns.level] at h7
  rw [← hruns.ocuCtrl] at h0 h5 h6 h9
  rw [← hruns.wfgCtrl] at hfield
  exact ⟨h7, h0, h5, h6, h9, hfield⟩

namespace PwmConfig

variable {b : Block} {c : Channel} (h : PwmConfig b c) (hactive : isActive b c = true) (inp : BitVec 4)
include h hactive

/-- Under the configuration the output goes high at the boundary, low on a match elsewhere, and stays otherwise
(47_tick_output.md R323 to R326). -/
theorem out_tick :
    out (b.tick inp) c = if boundary b inp c then true else if cmpeq b inp c then false else out b c := by
  rw [Machine.out_tick hactive, Block.nextOut, ← bit_ocuOutEn, h.driven, ← cmpeq_eq, ← boundary_eq, ← bit_outHighSel,
    h.highAtBoundary, ← bit_outLowSel, h.notLowAtBoundary, compareAction_toggleSelect, h.lowOnMatch]
  rfl

/-- Without buffering no tick changes the threshold (47_tick_output.md R328). -/
theorem threshold_tick : part (mode b) (b.tick inp).ocuCompare c = part (mode b) b.ocuCompare c := by
  rw [part_ocuCompare_tick hactive, commits_eq, h.unbuffered, Bool.and_false, Bool.false_and]
  rfl

end PwmConfig

/-- Edge-aligned PWM with threshold `threshold` while the count is that of the periodic up-counter: the output is high
exactly while the count is at most the threshold, and always high for a threshold from the match value on
(47_tick_output.md R330). -/
structure Pwm (b₀ : Block) (c : Channel) (threshold n : Nat) (b : Block) : Prop where
  runs : StillRuns b₀ c b
  cnt_eq : cnt b c = (cnt b₀ c + n) % (mat b₀ c + 1)
  threshold_eq : part (mode b₀) b.ocuCompare c = threshold
  out_eq : out b c = decide (mat b₀ c ≤ threshold ∨ cnt b c ≤ threshold)

/-- A tick keeps the output in step with the count (47_tick_output.md R330). -/
theorem Pwm.tick {b₀ b : Block} {c : Channel} {threshold n : Nat} (h : Pwm b₀ c threshold n b)
    (hconfig : PwmConfig b₀ c) (hper : per b₀ c = true) (hdir : dir b₀ c = 0 ∨ dir b₀ c = 1) (inp : BitVec 4) :
    Pwm b₀ c threshold (n + 1) (b.tick inp) := by
  have hconfig' := hconfig.of_stillRuns h.runs
  have hlt := Nat.mod_lt (cnt b₀ c + n) (mat b₀ c).add_one_pos
  have hle : cnt b c ≤ mat b₀ c := by rw [h.cnt_eq]; omega
  obtain ⟨hruns, hcnt⟩ := upCounter_tick hper hdir ⟨h.runs, h.cnt_eq⟩ inp
  have hcmpeq : cmpeq b inp c = (cnt b c == threshold) := by
    rw [cmpeq, h.runs.counts, hconfig'.fullWidth, h.runs.mode_eq, h.threshold_eq]
    rfl
  refine ⟨hruns, hcnt, ?_, ?_⟩
  · rw [← h.runs.mode_eq, hconfig'.threshold_tick h.runs.active, h.runs.mode_eq, h.threshold_eq]
  · rw [hconfig'.out_tick h.runs.active, h.runs.boundary_of_up hdir, hcmpeq, h.out_eq, h.runs.cnt_tick_of_up hdir hle]
    by_cases hmatch : cnt b c = mat b₀ c
    · simp [hmatch]
    · rw [beq_eq_false_iff_ne.mpr hmatch, if_neg Bool.false_ne_true, if_neg hmatch]
      by_cases hthreshold : cnt b c = threshold
      · rw [beq_iff_eq.mpr hthreshold, if_pos rfl]
        exact (decide_eq_false (by omega)).symm
      · rw [beq_eq_false_iff_ne.mpr hthreshold, if_neg Bool.false_ne_true]
        exact decide_eq_decide.mpr (by omega)

/-- Settles O57: at each tick the output is set by the boundary and cleared by the match in step with the count. -/
theorem edgeAlignedPwm : Obligations.EdgeAlignedPwm := by
  intro ins s c hfree hper hdir hle h7 h0 h5 h6 h9 hfield
  dsimp only
  intro hout
  have hstart : Pwm s.toBlock c (part (mode s.toBlock) s.ocuCompare c) 0 s.toBlock :=
    ⟨StillRuns.refl hfree, (Nat.mod_eq_of_lt (Nat.lt_succ_of_le hle)).symm, rfl, hout⟩
  obtain ⟨t, hrun, h⟩ := runTicks_of_invariant
    (P := Pwm s.toBlock c (part (mode s.toBlock) s.ocuCompare c)) (fun _ _ h => h.runs.allowed)
    (fun _ _ inp h => Pwm.tick h ⟨h7, h0, h5, h6, h9, hfield⟩ hper hdir inp) ins hstart
  exact ⟨t, hrun, h.out_eq, h.cnt_eq⟩

end Sys2Proof.Machine
end

section
/-! SUPPORT. What a tick does to one channel in 16-bit mode is a function of that channel's half of every register, its
one-bit elements and the input history (45_tick_events.md R260). -/

namespace Sys2Proof.Machine

open Sys2Proof.Claims

/-! ### Fields and their bits -/

/-- The bits of a field (00_scope.md R7, R8). -/
theorem testBit_field (w : Word) (p n : Nat) (c : Channel) (i : Nat) :
    (field w p n c).testBit i = (decide (i < n) && bit w (p + i) c) := by
  rw [field, Nat.testBit_mod_two_pow, Nat.testBit_div_two_pow, BitVec.testBit_toNat, bit,
    show i + (p + 16 * idx c) = p + i + 16 * idx c by omega]

/-- Two fields are equal when their bits are. -/
theorem field_eq_field_iff (w w' : Word) (p n : Nat) (c : Channel) :
    field w p n c = field w' p n c ↔ ∀ i < n, bit w (p + i) c = bit w' (p + i) c := by
  constructor
  · intro h i hi
    have hbit := congrArg (Nat.testBit · i) h
    simpa only [testBit_field, decide_eq_true hi, Bool.true_and] using hbit
  · intro h
    refine Nat.eq_of_testBit_eq fun i => ?_
    rw [testBit_field, testBit_field]
    by_cases hi : i < n
    · rw [h i hi]
    · rw [decide_eq_false hi, Bool.false_and, Bool.false_and]

section
variable {w w' : Word} {q n : Nat} {c : Channel} (h : field w q n c = field w' q n c)
include h

/-- Words that agree in a field agree in each bit of it. -/
theorem bit_congr (r : Nat) (hr : r < n) : bit w (q + r) c = bit w' (q + r) c :=
  (field_eq_field_iff w w' q n c).mp h r hr

/-- Words that agree in a field agree in each field within it. -/
theorem field_congr (r k : Nat) (hr : r + k ≤ n) : field w (q + r) k c = field w' (q + r) k c := by
  rw [field_eq_field_iff]
  intro i hi
  rw [Nat.add_assoc]
  exact bit_congr h (r + i) (by omega)

end

/-- The half of a word that a channel owns in 16-bit mode, as a field and as a slice (00_scope.md R8). -/
theorem field_half (w : Word) (c : Channel) : field w 0 16 c = (slice false w c).toNat := by
  rw [← part_eq_toNat_slice, field, part, Nat.zero_add]
  rfl

theorem slice_eq_iff_field (w w' : Word) (c : Channel) :
    slice false w c = slice false w' c ↔ field w 0 16 c = field w' 0 16 c := by
  rw [field_half, field_half, BitVec.toNat_inj]

theorem field_eq_toNat_levelField (w : Word) (c : Channel) : field w 0 4 c = (levelField w c).toNat := by
  cases c <;> simp [field, levelField, idx, Channel.shift, Config.counterOffset, Nat.shiftRight_eq_div_pow]

/-! ### The fields of a half word -/

section
variable {w w' : Word} {c : Channel} (h : field w 0 16 c = field w' 0 16 c)
include h

theorem chanBit_congr (p : Nat) (hp : p < 16) : chanBit w p c = chanBit w' p c := by
  have hbit := bit_congr h p hp
  rwa [Nat.zero_add, bit_eq_chanBit, bit_eq_chanBit] at hbit

theorem eventField_congr : eventField w c = eventField w' c :=
  BitVec.eq_of_toNat_eq (by
    rw [← field_eq_toNat_eventField, ← field_eq_toNat_eventField]
    exact field_congr h 0 6 (by decide))

theorem validField_congr : validField w c = validField w' c :=
  BitVec.eq_of_toNat_eq (by
    rw [← field_eq_toNat_validField, ← field_eq_toNat_validField]
    exact field_congr h 8 4 (by decide))

theorem levelField_congr : levelField w c = levelField w' c :=
  BitVec.eq_of_toNat_eq (by
    rw [← field_eq_toNat_levelField, ← field_eq_toNat_levelField]
    exact field_congr h 0 4 (by decide))

end

/-! ### What a tick reads of a channel -/

section
variable {c : Channel} {b b' : Block} (h : SameFor c b b')
include h

theorem sample_congr (inp : BitVec 4) : b.sample inp = b'.sample inp := by
  rw [Block.sample, Block.sample, h.prevIn, h.riseReg]

/-- An action of the channel fires alike (45_tick_events.md R268). -/
theorem fires_congr (x : Sample) (a : Action) : fires b x a c = fires b' x a c := by
  simp only [fires, selectedEvent, andCombiner, orCombiner, eventField_congr (h.evtSel a),
    validField_congr (h.evtAnd a), levelField_congr (h.evtAnd a), validField_congr (h.evtOr a), levelField_congr (h.evtOr a)]

theorem stops_congr (x : Sample) : b.stops x c = b'.stops x c := fires_congr h x .stop

/-- The channel's bits of the control word (10_state.md R27). -/
theorem levelBit_congr (p : Nat) (hp : 1 ≤ p ∧ p < 8) : chanBit b.level p c = chanBit b'.level p c := by
  have hbit := bit_congr h.level (p - 1) (by omega)
  rwa [Nat.add_sub_cancel' hp.1, bit_eq_chanBit, bit_eq_chanBit] at hbit

theorem direction_congr : b.direction c = b'.direction c := by
  have hdir : dir b c = dir b' c := field_congr h.level 3 2 (by decide)
  rw [direction_eq, direction_eq, hdir]

theorem toggleSelect_congr : b.toggleSelect c = b'.toggleSelect c := by
  have hfield : field b.wfgCtrl 0 2 c = field b'.wfgCtrl 0 2 c := field_congr h.wfgCtrl 0 2 (by decide)
  rw [toggleSelect_eq, toggleSelect_eq, hfield]

theorem incConfigured_congr : b.incConfigured c = b'.incConfigured c := by
  have hsel : eventField b.evtSel.increment c = eventField b'.evtSel.increment c :=
    eventField_congr (h.evtSel .increment)
  have hand : validField b.evtAnd.increment c = validField b'.evtAnd.increment c :=
    validField_congr (h.evtAnd .increment)
  have hor : validField b.evtOr.increment c = validField b'.evtOr.increment c :=
    validField_congr (h.evtOr .increment)
  rw [Block.incConfigured, Block.incConfigured, hsel, hand, hor]

/-- The channel counts alike (46_tick_counting.md R291). -/
theorem counting_congr (x : Sample) : b.counting x c = b'.counting x c := by
  simp only [Block.counting, Block.countEnabled, h.chan, fires_congr h, incConfigured_congr h]

variable (hm : b.mode32 = false) (hm' : b'.mode32 = false)
include hm hm'

theorem count_congr : b.count c = b'.count c := by
  rw [Block.count, Block.count, hm, hm', slice_eq_iff_field, h.counter]

theorem matchValue_congr : b.matchValue c = b'.matchValue c := by
  rw [Block.matchValue, Block.matchValue, hm, hm', slice_eq_iff_field, h.matchReg]

/-- The channel steps alike (46_tick_counting.md R290). -/
theorem countStep_congr (x : Sample) : b.countStep x c = b'.countStep x c := by
  have hper : b.periodic c = b'.periodic c := levelBit_congr h periodicBit (by decide)
  simp only [Block.countStep, counting_congr h, direction_congr h, hper, h.chan, hm, hm', count_congr h hm hm',
    matchValue_congr h hm hm']

theorem peakSeen_congr (x : Sample) : b.peakSeen x c = b'.peakSeen x c := by
  rw [Block.peakSeen, Block.peakSeen, counting_congr h, count_congr h hm hm', matchValue_congr h hm hm']

theorem zeroSeen_congr (x : Sample) : b.zeroSeen x c = b'.zeroSeen x c := by
  rw [Block.zeroSeen, Block.zeroSeen, counting_congr h, count_congr h hm hm']

/-- The channel's one-shot period ends alike (46_tick_counting.md R301). -/
theorem endsOneShot_congr (x : Sample) : b.endsOneShot x c = b'.endsOneShot x c := by
  have hper : b.periodic c = b'.periodic c := levelBit_congr h periodicBit (by decide)
  rw [Block.endsOneShot, Block.endsOneShot, countStep_congr h hm hm', hper]

/-- The channel's pending threshold is committed alike (47_tick_output.md R328). -/
theorem commits_congr (x : Sample) : b.commits x c = b'.commits x c := by
  have hbufEn : b.bufEn c = b'.bufEn c := levelBit_congr h bufEnBit (by decide)
  rw [Block.commits, Block.commits, countStep_congr h hm hm', hbufEn, h.chan]

/-- The channel's compare matches alike (47_tick_output.md R321, R322). -/
theorem compareMatch_congr (x : Sample) : b.compareMatch x c = b'.compareMatch x c := by
  have hmode8 : b.mode8 c = b'.mode8 c := chanBit_congr h.ocuCtrl mode8Bit (by decide)
  have hthreshold : slice false b.ocuCompare c = slice false b'.ocuCompare c :=
    (slice_eq_iff_field _ _ c).mpr h.ocuCompare
  simp only [Block.compareMatch, counting_congr h, hmode8, count_congr h hm hm', hm, hm', hthreshold]

/-- The channel's output moves alike (47_tick_output.md R326). -/
theorem nextOut_congr (x : Sample) : b.nextOut x c = b'.nextOut x c := by
  have hdriven : b.ocuOutEn c = b'.ocuOutEn c := chanBit_congr h.ocuCtrl ocuOutEnBit (by decide)
  have hhigh : b.outHighSel c = b'.outHighSel c := chanBit_congr h.ocuCtrl outHighSelBit (by decide)
  have hlow : b.outLowSel c = b'.outLowSel c := chanBit_congr h.ocuCtrl outLowSelBit (by decide)
  simp only [Block.nextOut, hdriven, hhigh, hlow, compareMatch_congr h hm hm', toggleSelect_congr h, h.chan,
    countStep_congr h hm hm', fires_congr h]

variable (hsync : b.syncTrig c = false)
include hsync

/-- Without `SYNC_TRIG_c` the channel is started by its own action alone (46_tick_counting.md R307). -/
theorem starts_congr (x : Sample) : b.starts x c = b'.starts x c := by
  have hsync' : b'.syncTrig c = false := (levelBit_congr h syncTrigBit (by decide)).symm.trans hsync
  simp only [Block.starts, hm, hm', hsync, hsync', fires_congr h, Bool.and_false, Bool.false_and]

/-- The channel's `RUN_c` moves alike (46_tick_counting.md R306). -/
theorem nextRun_congr (x : Sample) : b.nextRun x c = b'.nextRun x c := by
  rw [Block.nextRun, Block.nextRun, stops_congr h, starts_congr h hm hm' hsync, endsOneShot_congr h hm hm', h.chan]

/-- The channel's `HALT_c` moves alike (46_tick_counting.md R305, R306). -/
theorem nextHalt_congr (x : Sample) : b.nextHalt x c = b'.nextHalt x c := by
  rw [Block.nextHalt, Block.nextHalt, nextRun_congr h hm hm' hsync, starts_congr h hm hm' hsync,
    fires_congr h x .halt, fires_congr h x .cont, h.chan]

/-- The channel's `PHASE_c` moves alike (46_tick_counting.md R306). -/
theorem nextPhase_congr (x : Sample) : b.nextPhase x c = b'.nextPhase x c := by
  rw [Block.nextPhase, Block.nextPhase, starts_congr h hm hm' hsync, stops_congr h, countStep_congr h hm hm']

/-- All that a tick computes for the channel is computed from the channel's half (45_tick_events.md R260). -/
theorem channelTick_congr (x : Sample) : b.channelTick x c = b'.channelTick x c := by
  rw [Block.channelTick, Block.channelTick, countStep_congr h hm hm', nextRun_congr h hm hm' hsync,
    nextHalt_congr h hm hm' hsync, nextPhase_congr h hm hm' hsync, commits_congr h hm hm', nextOut_congr h hm hm',
    fires_congr h x .capture, fires_congr h x .interrupt, peakSeen_congr h hm hm', zeroSeen_congr h hm hm',
    count_congr h hm hm', h.chan]

end

/-! ### What a tick writes of a channel -/

/-- What a channel's tick raises of `STS`, from its computation (46_tick_counting.md R309 to R311). -/
theorem raises_eq_channelTick (b : Block) (inp : BitVec 4) (c : Channel) (n : Nat) :
    raises b inp c n = ((n == 3 + 16 * idx c && (b.channelTick (b.sample inp) c).peak) ||
      (n == 2 + 16 * idx c && (b.channelTick (b.sample inp) c).zero) ||
      (n == 16 * idx c && (b.channelTick (b.sample inp) c).event)) := by
  rw [raises, peak_eq, zero_eq, fire_eq]
  rfl

section
variable {b : Block} (hm : b.mode32 = false) (inp : BitVec 4) (c : Channel)
include hm

theorem active_of_mode16 : c ∈ activeChannels b.mode32 := (mem_activeChannels _ _).mpr (.inr hm)

/-- The channel's half of COUNTER after a tick (46_tick_counting.md R290). -/
theorem slice_counter_tick : slice false (b.tick inp).counter c = (b.channelTick (b.sample inp) c).count := by
  have hcount := tick_count b inp c (active_of_mode16 hm c)
  rwa [Block.count, show (b.tick inp).mode32 = false from (mode_tick b inp).trans hm] at hcount

/-- A bit of the channel's half of `STS` after a tick: the other channel raises none there (46_tick_counting.md R309 to
R311). -/
theorem bit_sts_tick {i : Nat} (hi : i < 16) :
    bit (b.tick inp).sts i c = (bit b.sts i c || raises b inp c (i + 16 * idx c)) := by
  have hactive (c' : Channel) : isActive b c' = true := (isActive_iff b c').mpr (active_of_mode16 hm c')
  have hother : raises b inp c.other (i + 16 * idx c) = false := by
    cases c with
    | c0 =>
      simp [raises, idx, Channel.other]
      omega
    | c1 => simp [raises, idx, Channel.other]
  rw [bit, getLsbD_sts_tick, ← bit]
  cases c with
  | c0 =>
    have hc1 : raises b inp .c1 (i + 16 * idx .c0) = false := hother
    simp [hactive, hc1]
  | c1 =>
    have hc0 : raises b inp .c0 (i + 16 * idx .c1) = false := hother
    simp [hactive, hc0]

end

/-! ### The two states after the tick -/

/-- Blocks that look alike from a channel still do after the same tick (45_tick_events.md R260). -/
theorem sameFor_tick {c : Channel} {b b' : Block} (h : SameFor c b b') (hm : b.mode32 = false) (hm' : b'.mode32 = false)
    (hsync : b.syncTrig c = false) (inp : BitVec 4) : SameFor c (b.tick inp) (b'.tick inp) := by
  have hsample := sample_congr h inp
  have htick : b.channelTick (b.sample inp) c = b'.channelTick (b'.sample inp) c :=
    hsample ▸ channelTick_congr h hm hm' hsync (b.sample inp)
  constructor
  case level => rw [tick_level, tick_level, h.level]
  case sts =>
    rw [field_eq_field_iff]
    intro i hi
    have hbit := bit_congr h.sts i hi
    rw [Nat.zero_add] at hbit ⊢
    rw [bit_sts_tick hm inp c hi, bit_sts_tick hm' inp c hi, raises_eq_channelTick, raises_eq_channelTick, htick, hbit]
  case matchReg => rw [tick_matchReg, tick_matchReg, h.matchReg]
  case counter => rw [← slice_eq_iff_field, slice_counter_tick hm, slice_counter_tick hm', htick]
  case captureReg =>
    have hcapture := slice_captureReg_tick (active_of_mode16 hm c) inp
    have hcapture' := slice_captureReg_tick (active_of_mode16 hm' c) inp
    rw [hm, htick, (slice_eq_iff_field _ _ c).mpr h.captureReg] at hcapture
    rw [hm'] at hcapture'
    exact (slice_eq_iff_field _ _ c).mp (hcapture.trans hcapture'.symm)
  case ocuCtrl => rw [tick_ocuCtrl, tick_ocuCtrl, h.ocuCtrl]
  case ocuCompare =>
    have hcompare := slice_ocuCompare_tick (active_of_mode16 hm c) inp
    have hcompare' := slice_ocuCompare_tick (active_of_mode16 hm' c) inp
    have hcommit : b.commits (b.sample inp) c = b'.commits (b'.sample inp) c := congrArg ChannelTick.commit htick
    rw [hm, hcommit] at hcompare
    rw [hm'] at hcompare'
    rw [← slice_eq_iff_field, hcompare, hcompare', slice_eq_iff_field]
    split_ifs
    · exact h.ocuCompareNxt
    · exact h.ocuCompare
  case ocuCompareNxt => rw [tick_ocuCompareNxt, tick_ocuCompareNxt, h.ocuCompareNxt]
  case wfgCtrl => rw [tick_wfgCtrl, tick_wfgCtrl, h.wfgCtrl]
  case evtSel =>
    intro a
    rw [tick_evtSel, tick_evtSel, h.evtSel]
  case evtAnd =>
    intro a
    rw [tick_evtAnd, tick_evtAnd, h.evtAnd]
  case evtOr =>
    intro a
    rw [tick_evtOr, tick_evtOr, h.evtOr]
  case chan => rw [tick_chan b inp c (active_of_mode16 hm c), tick_chan b' inp c (active_of_mode16 hm' c), htick]
  case prevIn => rw [tick_prevIn, tick_prevIn]
  case riseReg => rw [tick_riseReg, tick_riseReg, h.prevIn]

/-- Settles O35: the tick is allowed in both states, and computes and writes the channel's half from that half alone. -/
theorem channelsIndependent : Obligations.ChannelsIndependent := by
  intro inp s s' c hm hm' hsync hallowed hallowed' h
  rw [bit_eq_chanBit] at hsync
  exact ⟨_, _, exec_tick_of_allowed hallowed inp, exec_tick_of_allowed hallowed' inp,
    sameFor_tick h hm hm' hsync inp⟩

end Sys2Proof.Machine
end
